-- ==== Sys2Proof/Word.lean ====
section
/-! DEFINITION. The word types of the WB64: what the manual treats as bits (00_scope.md, Conventions). -/

namespace Sys2Proof

/-- One byte of a packet. -/
abbrev Byte := BitVec 8

/-- A source id, 0 to 63 (Chapter 2, introduction). -/
abbrev SourceId := BitVec 6

/-- A tag, upstream or downstream, 0 to 255 (Terms, R95). -/
abbrev Tag := BitVec 8

/-- A card address or a memory address, 40 bits (Conventions, Addresses). -/
abbrev Addr := BitVec 40

/-- A page number: an address divided by 4096 (Conventions, Addresses). -/
abbrev Page := BitVec 28

/-- A value of the timebase, which wraps (Conventions, Ticks; R151). -/
abbrev Tick := BitVec 32

end Sys2Proof
end

