-- ==== Sys2Proof/Syntax.lean ====
section
/-! DEFINITION. The commands of the WB64: one constructor of `Instr` per row of spec/opcode_table.json,
and the data a command carries: straps, link words, packets. -/

namespace Sys2Proof

/-- The two ports (R157). -/
inductive Port where
  /-- The card-side port. -/
  | c
  /-- The memory-side port. -/
  | m
  deriving DecidableEq, Repr, Inhabited

/-- The start mode of the SMODE strap (Pin and strap summary). -/
inductive StartMode where
  | startOpen
  | startShut
  deriving DecidableEq, Repr, Inhabited

/-- The strap values sampled at the release of RST_N (Pin and strap summary, R153). -/
structure Straps where
  /-- Management source id. -/
  msrc : SourceId
  /-- Start mode. -/
  smode : StartMode
  /-- The bridge's own id. -/
  bid : SourceId
  deriving DecidableEq, Repr, Inhabited

/-- The role of a TRAIN word; a port judges only whether it is UPPER, LOWER or neither (R158, R169). -/
inductive Role where
  | upper
  | lower
  | invalid
  deriving DecidableEq, Repr, Inhabited

/-- What a TRAIN word offers: role, payload code and buffers count (R158). -/
structure LinkOffer where
  role : Role
  payloadCode : Nat
  buffers : Nat
  deriving DecidableEq, Repr, Inhabited

/-- A TRAIN word: an offer and the agree mark (R158). -/
structure TrainWord where
  offer : LinkOffer
  agree : Bool
  deriving DecidableEq, Repr, Inhabited

/-- The kind of a packet (R169); `unknown` is a kind code that names no kind (R162, order 2). -/
inductive PacketKind where
  | read
  | write
  | post
  | answer
  | mreq
  | mreply
  | alert
  | unknown (code : Byte)
  deriving DecidableEq, Repr, Inhabited

/-- A packet: the header fields of R169 and the payload.
The header's payload length field is the length of `payload`. -/
structure Packet where
  kind : PacketKind
  /-- Source id, bits 5 to 0 of byte 1. -/
  source : SourceId
  /-- Destination id, bits 5 to 0 of byte 2. -/
  dest : SourceId
  tag : Tag
  /-- ANSWER status code; 0 in other kinds. -/
  status : Byte
  /-- Length field: of the request, or of the request answered. -/
  length : Nat
  address : Addr
  payload : List Byte
  deriving DecidableEq, Repr, Inhabited

/-- The commands: one constructor per row of spec/opcode_table.json, in the table's order.
A command that takes a packet or a claim has no operand: the state says which packet or claim is next. -/
inductive Instr where
  | powerOnReset (straps : Straps)
  | tick
  | meterRollover (m : Fin 4)
  | expiryDue
  | slotOverdue (i : Fin 32)
  | wordAlignmentAcquired (p : Port)
  | alignmentLost (p : Port)
  | alignmentLossExpiry (p : Port)
  | trainWord (p : Port) (w : TrainWord)
  | creditWord (p : Port) (count : Nat)
  | sendCredit (p : Port)
  | sendPacket (p : Port)
  | packetReceived (p : Port) (checkRight : Bool) (pkt : Packet)
  | read
  | write
  | post
  | answer
  | retireComplete
  | setModeComplete
  | deadlineExpiry
  | holdListPlace
  | parkExpiry
  | leavingAnswer
  | abortListPlace
  | mreplyPlace
  | alert
  | identify
  | getSetting
  | setSetting
  | setMeterSetting
  | getDomain
  | setDomain
  | loadWindow
  | widenWindow
  | readWindow
  | retireEntry
  | retireRange
  | retireDomain
  | retireAll
  | setMode
  | meterRun
  | meterStop
  | meterRestart
  | readFault
  | releaseFault
  | clearOverflow
  | faultSummary
  | portStatus
  | resetWarm
  | alignmentRegained (p : Port)
  | idleWord (p : Port)
  | badRequest
  | rstNAsserted
  deriving DecidableEq, Repr, Inhabited

end Sys2Proof
end

