-- ==== Sys2Proof/Config.lean ====
section
/-! DEFINITION. What the chassis fixes: the strap values of `State.reset` (log 1). -/

namespace Sys2Proof

/-- The strap values sampled at the release of RST_N that `Machine.State.reset` follows.
A free value: the straps are inputs (Pin and strap summary). DESIGN CHOICE, safe (log 1). -/
opaque Config.resetStraps : Straps

end Sys2Proof
end

