-- ==== Sys2Proof/Machine/State.lean ====
section
/-! DEFINITION. The state of the WB64: every piece of state the manual gives it, as plain data,
and its value after a power-on reset. -/

namespace Sys2Proof.Machine

/-- The bridge mode (R41). -/
inductive Mode where
  | openMode
  | guardMode
  | shutMode
  deriving DecidableEq, Repr, Inhabited

/-- Class of a source (R27). -/
inductive SourceClass where
  | privileged
  | user
  deriving DecidableEq, Repr, Inhabited

/-- Miss policy of a source (R27). -/
inductive MissPolicy where
  | park
  | refuse
  deriving DecidableEq, Repr, Inhabited

/-- A record of the domain table (R27). -/
structure DomainRecord where
  valid : Bool
  domain : Fin 16
  sourceClass : SourceClass
  missPolicy : MissPolicy
  mayManage : Bool
  deriving DecidableEq, Repr, Inhabited

/-- Life state of a window entry (R2). -/
inductive EntryState where
  | free
  | active
  | draining
  deriving DecidableEq, Repr, Inhabited

/-- Domain field of a window entry: a number or SHARED (R1). -/
inductive WindowDomain where
  | numbered (d : Fin 16)
  | shared
  deriving DecidableEq, Repr, Inhabited

/-- Rights of a window: any subset of the three (R1). -/
structure Rights where
  read : Bool
  write : Bool
  userOpen : Bool
  deriving DecidableEq, Repr, Inhabited

/-- Delivery class of a window (R1). -/
inductive Delivery where
  | asSent
  | confirmed
  deriving DecidableEq, Repr, Inhabited

/-- A window entry (R1). -/
structure WindowEntry where
  state : EntryState
  domain : WindowDomain
  cardBase : Addr
  sizeExp : Nat
  memBase : Addr
  rights : Rights
  delivery : Delivery
  meter : Option (Fin 4)
  inFlight : Nat
  admissions : BitVec 32
  deriving DecidableEq, Repr, Inhabited

/-- Kind of a data request (R39). -/
inductive ReqKind where
  | read
  | write
  | post
  deriving DecidableEq, Repr, Inhabited

/-- A data request as the admission path judges it (R40) and as a park item holds it (R70).
`tag` is the upstream tag, absent for a POST; `data` is empty for a READ. -/
structure Request where
  source : SourceId
  kind : ReqKind
  tag : Option Tag
  address : Addr
  length : Nat
  data : List Byte
  deriving DecidableEq, Repr, Inhabited

/-- Status of an upstream ANSWER (R60). -/
inductive AnswerStatus where
  | ok
  | noWindow
  | denied
  | refused
  | busy
  | expired
  | timeout
  | targetErr
  | targetLost
  | aborted
  deriving DecidableEq, Repr, Inhabited

/-- Fault kinds in the order of the table of R127; `noFault` is NONE, the kind of a record never written. -/
inductive FaultKind where
  | noFault
  | unknownSource
  | shutRefused
  | miss
  | crossing
  | rights
  | oversize
  | meterRefused
  | parkFull
  | parkExpired
  | answerTimeout
  | badAnswer
  | targetFault
  | lateAnswer
  | targetLost
  | mgmtDenied
  deriving DecidableEq, Repr, Inhabited

/-- Where a fault struck (R126, R127). -/
inductive Locus where
  | nowhere
  | window (i : Fin 64)
  | page (p : Page)
  | downTag (t : Tag)
  deriving DecidableEq, Repr, Inhabited

/-- A fault as a block hands it to the log (R128), less the tick. -/
structure FaultInfo where
  kind : FaultKind
  source : Option SourceId
  locus : Locus
  reqKind : Option ReqKind
  address : Option Addr
  deriving DecidableEq, Repr, Inhabited

/-- Why an item is parked; METER carries the meter's number (R70). -/
inductive ParkReason where
  | miss
  | meter (m : Fin 4)
  | slot
  | behind
  deriving DecidableEq, Repr, Inhabited

/-- A park item waits with a reason, or waits to leave with a decided answer (R70). -/
inductive ItemState where
  | parked (r : ParkReason)
  | leaving (status : AnswerStatus) (fault : FaultInfo)
  deriving DecidableEq, Repr, Inhabited

/-- An item of the park queue (R70). `serial` is the model's own: it tells equal items apart (log 18). -/
structure ParkItem where
  serial : Nat
  state : ItemState
  arrival : Tick
  req : Request
  expiryDue : Bool
  deriving DecidableEq, Repr, Inhabited

/-- An entry of the abort list (R87); its status is ABORTED. -/
structure AbortEntry where
  dest : SourceId
  tag : Tag
  length : Nat
  fromModeChange : Bool
  deriving DecidableEq, Repr, Inhabited

/-- Kind of an outstanding slot (R91). -/
inductive SlotKind where
  | read
  | write
  | confirm
  deriving DecidableEq, Repr, Inhabited

/-- State of an outstanding slot (R91). -/
inductive SlotState where
  | free
  | waiting
  deriving DecidableEq, Repr, Inhabited

/-- An outstanding slot (R91). `overdueFor` counts the ticks since the slot became overdue; it is implied by R97, which
takes the slot that became overdue first (log 15). -/
structure Slot where
  state : SlotState
  origin : SourceId
  upTag : Option Tag
  kind : SlotKind
  window : Option (Fin 64)
  length : Nat
  deadline : Tick
  overdue : Bool
  drainMark : Bool
  generation : BitVec 3
  overdueFor : Nat := 0
  deriving DecidableEq, Repr, Inhabited

/-- An entry of the answer hold list (R106). -/
structure HoldEntry where
  dest : SourceId
  tag : Tag
  length : Nat
  status : AnswerStatus
  deriving DecidableEq, Repr, Inhabited

/-- Run state of a meter (R111). -/
inductive MeterState where
  | stopped
  | running
  deriving DecidableEq, Repr, Inhabited

/-- Basis of a meter (R111). -/
inductive Basis where
  | requests
  | bytes64
  deriving DecidableEq, Repr, Inhabited

/-- Action of a meter (R111). -/
inductive MeterAction where
  | hold
  | refuse
  deriving DecidableEq, Repr, Inhabited

/-- The next values of a meter, present together or absent together (R111). -/
structure NextValues where
  period : Nat
  budget : Nat
  deriving DecidableEq, Repr, Inhabited

/-- A meter (R111). `rolloverDue` is implied by R113: the tick that would bring the period count to the
period has come, and the rollover of that tick has not been taken yet (log 5). -/
structure Meter where
  state : MeterState
  basis : Basis
  period : Nat
  budget : Nat
  action : MeterAction
  buffered : Bool
  next : Option NextValues
  periodCount : Nat
  used : Nat
  rolloverDue : Bool
  deriving DecidableEq, Repr, Inhabited

/-- A record of the fault log (R126). -/
structure FaultRecord where
  pending : Bool
  info : FaultInfo
  firstTick : Tick
  repeatCount : Nat
  deriving DecidableEq, Repr, Inhabited

/-- The fault log: sixteen records, the write position, the overflow flag (R126, R130, R131). -/
structure FaultLog where
  records : Vector FaultRecord 16
  writePos : Fin 16
  overflow : Bool
  deriving DecidableEq, Repr

/-- The alert controller (R138). -/
structure AlertCtl where
  mask : Bool
  dest : SourceId
  pending : Bool
  due : Bool
  deriving DecidableEq, Repr, Inhabited

/-- The long-operation state (R148): NONE, or a RETIRE or SET_MODE in progress with its requester and
the values its deferred reply will carry. -/
inductive LongOp where
  | idle
  | retire (source : SourceId) (tag : Tag) (retired : Nat) (widened : Bool)
  | setMode (source : SourceId) (tag : Tag) (oldMode : Mode) (marked : Nat)
  deriving DecidableEq, Repr, Inhabited

/-- An entry of the management reply list (R147): the MREPLY, and how many entries at the head of the
abort list and of the answer hold list must be placed before it may go (log 20). -/
structure Reply where
  packet : Packet
  abortAhead : Nat
  holdAhead : Nat
  deriving DecidableEq, Repr, Inhabited

/-- Training state of a port (R157). -/
inductive Training where
  | down
  | train
  | agree
  | up
  | mismatch
  deriving DecidableEq, Repr, Inhabited

/-- Latched indications of a port (R157). -/
structure Indications where
  wentDown : Bool
  cameUp : Bool
  checkError : Bool
  malformed : Bool
  misplaced : Bool
  creditError : Bool
  deriving DecidableEq, Repr, Inhabited

/-- What a port has put on its lanes (log 11). -/
inductive Sent where
  | train (w : TrainWord)
  | credit (count : Nat)
  | packet (p : Packet)
  deriving DecidableEq, Repr, Inhabited

/-- A port (R157). `trainCount` and `lastOffer` count the consecutive partner TRAIN words of R158;
`lossTicks` counts the ticks of a loss of word alignment (R158, log 22); `sent` is the model's own
record of what the port has sent since power-on, oldest first (log 11). -/
structure PortState where
  training : Training
  trainCount : Nat
  lastOffer : Option LinkOffer
  agreed : Option LinkOffer
  negotiated : Option Nat
  credits : Nat
  owed : Nat
  rx : List Packet
  tx : List Packet
  indications : Indications
  lossTicks : Option Nat
  sent : List Sent
  deriving DecidableEq, Repr, Inhabited

/-- The producers of the C send queue, in the order of the table of R163. -/
inductive Producer where
  | admission
  | parkQueue
  | router
  | management
  | alertCtl
  deriving DecidableEq, Repr, Inhabited

/-- The state of the bridge, and the queue of commands waiting to be taken. -/
structure State where
  /-- Commands waiting to be taken, oldest first. -/
  pending : List Instr
  /-- RST_N is held low (R157, log 4). -/
  inReset : Bool
  straps : Straps
  tick : Tick
  mode : Mode
  domains : Vector DomainRecord 64
  windows : Vector WindowEntry 64
  /-- The park queue, head first. -/
  park : List ParkItem
  abortList : List AbortEntry
  parkLimit : Nat
  slots : Vector Slot 32
  freeList : List (Fin 32)
  holdList : List HoldEntry
  answerTimeout : Nat
  meters : Vector Meter 4
  log : FaultLog
  alert : AlertCtl
  longOp : LongOp
  replies : List Reply
  cPort : PortState
  mPort : PortState
  /-- The producer the arbiter's rotation begins with at the next grant (R163). -/
  nextProducer : Producer
  /-- An input of the model, set beside `pending`: a SLOT trigger that is given waits for a step of its own
  (R79, R45, R164; log 30). -/
  slotTriggerWaits : Bool
  /-- How many SLOT triggers have been given and have not been taken yet, one for each event that gave one
  (R78, R79, R105; log 30). -/
  slotTriggersDue : Nat
  deriving DecidableEq, Repr

/-- The reasons a step can stop with a fault: none. No event of the manual stops the bridge: a refused
request is answered and a fault is a record of the fault log (Chapter 7). -/
inductive Fault where
  deriving DecidableEq, Repr

/-- The reasons a step can be refused. -/
inductive Refusal where
  /-- The command has no meaning yet. Safe: the model stops where the hardware goes on. No arm raises it. -/
  | notModelled (mnemonic : String)
  deriving DecidableEq, Repr

/-- The outcome of one command. -/
abbrev Outcome := Host.Outcome State Fault Refusal

/-- A record of the domain table at power-on (R28). -/
def DomainRecord.powerOn : DomainRecord :=
  { valid := false, domain := 0, sourceClass := .user, missPolicy := .refuse, mayManage := false }

/-- A window entry at power-on (R3). -/
def WindowEntry.powerOn : WindowEntry :=
  { state := .free, domain := .numbered 0, cardBase := 0, sizeExp := 0, memBase := 0,
    rights := { read := false, write := false, userOpen := false }, delivery := .asSent, meter := none,
    inFlight := 0, admissions := 0 }

/-- An outstanding slot at power-on (R92). -/
def Slot.powerOn : Slot :=
  { state := .free, origin := 0, upTag := some 0, kind := .read, window := none, length := 0, deadline := 0,
    overdue := false, drainMark := false, generation := 0, overdueFor := 0 }

/-- A meter at power-on (R112). -/
def Meter.powerOn : Meter :=
  { state := .stopped, basis := .requests, period := 1000, budget := 65535, action := .hold, buffered := false,
    next := none, periodCount := 0, used := 0, rolloverDue := false }

/-- A fault record at power-on (R126). -/
def FaultRecord.powerOn : FaultRecord :=
  { pending := false,
    info := { kind := .noFault, source := none, locus := .nowhere, reqKind := none, address := none },
    firstTick := 0, repeatCount := 0 }

/-- The fault log at power-on (R126, R130, R131). -/
def FaultLog.powerOn : FaultLog :=
  { records := Vector.replicate 16 FaultRecord.powerOn, writePos := 0, overflow := false }

/-- A port at power-on (R157). -/
def PortState.powerOn : PortState :=
  { training := .down, trainCount := 0, lastOffer := none, agreed := none, negotiated := none, credits := 0,
    owed := 0, rx := [], tx := [],
    indications := { wentDown := false, cameUp := false, checkError := false, malformed := false,
                     misplaced := false, creditError := false },
    lossTicks := none, sent := [] }

/-- The mode that the SMODE strap gives at power-on (R41). -/
def Mode.ofStrap : StartMode → Mode
  | .startOpen => .openMode
  | .startShut => .shutMode

/-- The bridge right after the release of RST_N with the given straps: the power-on value of every item of
state (R3, R28, R41, R90, R92, R106, R112, R126, R138, R147, R148, R150, R151, R157, R163). -/
def State.powerOn (straps : Straps) : State :=
  { pending := [], inReset := false, straps := straps, tick := 0, mode := Mode.ofStrap straps.smode,
    domains := Vector.replicate 64 DomainRecord.powerOn, windows := Vector.replicate 64 WindowEntry.powerOn,
    park := [], abortList := [], parkLimit := 500,
    slots := Vector.replicate 32 Slot.powerOn, freeList := List.finRange 32, holdList := [], answerTimeout := 4000,
    meters := Vector.replicate 4 Meter.powerOn, log := FaultLog.powerOn,
    alert := { mask := true, dest := straps.msrc, pending := false, due := false },
    longOp := .idle, replies := [], cPort := PortState.powerOn, mPort := PortState.powerOn,
    nextProducer := .admission, slotTriggerWaits := false, slotTriggersDue := 0 }

/-- The machine right after a power-on reset whose straps are the free values of Config (log 1). -/
def State.reset : State := State.powerOn Config.resetStraps

end Sys2Proof.Machine
end

