-- ==== Sys2Proof/Machine/Ops.lean ====
section
/-! DEFINITION. The named operations over the state: table access, field updates, time, ports, and the
placing of packets in the send queues. Everything else is written over these. -/

namespace Sys2Proof.Machine

/-! ## Tables -/

/-- The table with the record at `i` replaced. -/
def setAt {α : Type} {n : Nat} (v : Vector α n) (i : Fin n) (x : α) : Vector α n :=
  v.set i.1 x i.2

/-- The table with every record changed by `f`. -/
def mapTable {α : Type} {n : Nat} (f : α → α) (v : Vector α n) : Vector α n :=
  ⟨(v.toList.map f).toArray, by simp⟩

/-- How many records of the table satisfy `p`. -/
def countTable {α : Type} {n : Nat} (p : α → Bool) (v : Vector α n) : Nat :=
  v.toList.countP p

/-- Whether some record of the table satisfies `p`. -/
def anyTable {α : Type} {n : Nat} (p : α → Bool) (v : Vector α n) : Bool :=
  v.toList.any p

/-- The lowest index whose record satisfies `p`. -/
def findIndex {α : Type} {n : Nat} (p : α → Bool) (v : Vector α n) : Option (Fin n) :=
  (List.finRange n).find? fun i => p v[i]

/-- The index of a source's record in the domain table (R27). -/
def sourceIndex (src : SourceId) : Fin 64 := ⟨src.toNat, src.isLt⟩

/-! ## Field updates -/

namespace State

def setInReset (s : State) (x : Bool) : State := { s with inReset := x }
def setTick (s : State) (x : Tick) : State := { s with tick := x }
def setModeField (s : State) (x : Mode) : State := { s with mode := x }
def setDomains (s : State) (x : Vector DomainRecord 64) : State := { s with domains := x }
def setWindows (s : State) (x : Vector WindowEntry 64) : State := { s with windows := x }
def setPark (s : State) (x : List ParkItem) : State := { s with park := x }
def setAbortList (s : State) (x : List AbortEntry) : State := { s with abortList := x }
def setParkLimit (s : State) (x : Nat) : State := { s with parkLimit := x }
def setSlots (s : State) (x : Vector Slot 32) : State := { s with slots := x }
def setFreeList (s : State) (x : List (Fin 32)) : State := { s with freeList := x }
def setHoldList (s : State) (x : List HoldEntry) : State := { s with holdList := x }
def setAnswerTimeout (s : State) (x : Nat) : State := { s with answerTimeout := x }
def setMeters (s : State) (x : Vector Meter 4) : State := { s with meters := x }
def setLog (s : State) (x : FaultLog) : State := { s with log := x }
def setAlert (s : State) (x : AlertCtl) : State := { s with alert := x }
def setLongOp (s : State) (x : LongOp) : State := { s with longOp := x }
def setReplies (s : State) (x : List Reply) : State := { s with replies := x }
def setCPort (s : State) (x : PortState) : State := { s with cPort := x }
def setMPort (s : State) (x : PortState) : State := { s with mPort := x }
def setNextProducer (s : State) (x : Producer) : State := { s with nextProducer := x }
def setSlotTriggersDue (s : State) (x : Nat) : State := { s with slotTriggersDue := x }

/-- The record of a port (R157). -/
def port (s : State) : Port → PortState
  | .c => s.cPort
  | .m => s.mPort

/-- The state with a port's record replaced: the other port's record is not touched (R157). -/
def setPort (s : State) (p : Port) (x : PortState) : State :=
  match p with
  | .c => s.setCPort x
  | .m => s.setMPort x

/-- The state with one window entry replaced. -/
def setWindow (s : State) (i : Fin 64) (e : WindowEntry) : State := s.setWindows (setAt s.windows i e)

/-- The state with one slot replaced. -/
def setSlot (s : State) (i : Fin 32) (x : Slot) : State := s.setSlots (setAt s.slots i x)

/-- The state with one meter replaced. -/
def setMeter (s : State) (m : Fin 4) (x : Meter) : State := s.setMeters (setAt s.meters m x)

end State

/-! ## Commands and RST_N -/

/-- A command's effect while RST_N is high; while it is low the bridge is held in reset and nothing
changes (Pin and strap summary, R157; log 4). -/
def whenRunning (s : State) (f : State → State) : Outcome :=
  .next (if s.inReset then s else f s)

/-! ## Time -/

/-- A difference of ticks, modulo 2^32 (Conventions, Ticks). -/
def age (now since : Tick) : Nat := (now - since).toNat

/-- The page of an address: the address divided by 4096, rounded down (R61). -/
def pageOf (a : Addr) : Page := BitVec.ofNat 28 (a.toNat / 4096)

/-! ## Ports and send queues -/

/-- Capacity of the receive buffers, of the send queues and of the park queue (R157, R71). -/
def capacity : Nat := 16

/-- The port is UP. -/
def PortState.isUp (p : PortState) : Bool := p.training == .up

/-- The C-port is UP. -/
def State.cUp (s : State) : Bool := s.cPort.isUp

/-- The M-port is UP. -/
def State.mUp (s : State) : Bool := s.mPort.isUp

/-- The port with a packet appended to its send queue. -/
def PortState.enqueue (p : PortState) (pkt : Packet) : PortState := { p with tx := p.tx ++ [pkt] }

/-- The port returns every credit owed in a CREDIT word, when some are owed (R161). -/
def PortState.returnCredits (x : PortState) : PortState :=
  if 0 < x.owed then { x with owed := 0, sent := x.sent ++ [.credit x.owed] } else x

/-- One more place of the receive buffer has freed and is owed to the partner (R161). A port that owes 16 has
sent its CREDIT word before one more falls due: the credits owed are 0 to 16 (R157; log 28). -/
def PortState.oweCredit (x : PortState) : PortState :=
  if x.owed < capacity then { x with owed := x.owed + 1 } else { x.returnCredits with owed := 1 }

/-- The port with the head of its receive buffer taken; a credit is owed for it while the port is UP (R161). -/
def PortState.takeHead (p : PortState) : PortState :=
  let q := { p with rx := p.rx.tail }
  if p.isUp then q.oweCredit else q

/-- A packet can be placed in the C send queue, or would be discarded because the C-port is not UP
(R39, R98, R163). -/
def State.cFree (s : State) : Bool := !s.cUp || decide (s.cPort.tx.length < capacity)

/-- The same beside `used` places that the event in progress has used without placing a packet there (R80, R83). -/
def State.cFreeBeside (s : State) (used : Nat) : Bool := !s.cUp || decide (s.cPort.tx.length + used < capacity)

/-- Places a packet in the C send queue, or discards it when the C-port is not UP (R59, R102, R146). -/
def placeC (pkt : Packet) (s : State) : State :=
  if s.cUp then s.setCPort (s.cPort.enqueue pkt) else s

/-- The M send queue has a free place (R45). -/
def State.mPlaceFree (s : State) : Bool := decide (s.mPort.tx.length < capacity)

end Sys2Proof.Machine
end

