-- ==== Sys2Proof/Machine/Wire.lean ====
section
/-! DEFINITION. The layouts of R156 and R169: numbers as bytes, the codes of the enumerated fields, the
packet header, the payloads of MREPLY and ALERT. -/

namespace Sys2Proof.Machine

/-! ## Numbers as bytes, least significant byte first (R156, R169) -/

/-- The `n` bytes of a number, least significant first. -/
def leBytes : Nat → Nat → List Byte
  | 0, _ => []
  | n + 1, v => BitVec.ofNat 8 v :: leBytes n (v / 256)

/-- The number that bytes spell, least significant first. -/
def ofLe : List Byte → Nat
  | [] => 0
  | b :: bs => b.toNat + 256 * ofLe bs

/-- The bytes of an absent field: FFh in every byte (R156). -/
def absentBytes (n : Nat) : List Byte := List.replicate n 0xFF#8

/-- The `n` bytes of an optional field (R156). -/
def optBytes (n : Nat) : Option Nat → List Byte
  | some v => leBytes n v
  | none => absentBytes n

/-- A flag byte: 0 clear, 1 set (R156). -/
def flagByte (b : Bool) : Byte := if b then 1 else 0

/-- Byte `i` of an MREQ payload. -/
def byteAt (p : List Byte) (i : Nat) : Nat := (p.getD i 0).toNat

/-- The number in the `n` bytes of an MREQ payload that begin at byte `i`. -/
def fieldAt (p : List Byte) (i n : Nat) : Nat := ofLe ((p.drop i).take n)

/-! ## Codes of the enumerated fields (R156) -/

/-- An operand flag: 0 or 1 (R156). -/
def flagOfCode : Nat → Option Bool
  | 0 => some false
  | 1 => some true
  | _ => none

/-- A window's domain operand: 0 to 15, SHARED 16. -/
def windowDomainOfCode (n : Nat) : Option WindowDomain :=
  if h : n < 16 then some (.numbered ⟨n, h⟩) else if n = 16 then some .shared else none

def WindowDomain.code : WindowDomain → Nat
  | .numbered d => d.val
  | .shared => 16

/-- Rights operand: bit 0 read, bit 1 write, bit 2 user-open; a bit above names no rights. -/
def rightsOfCode (n : Nat) : Option Rights :=
  if n < 8 then some { read := n.testBit 0, write := n.testBit 1, userOpen := n.testBit 2 } else none

def Rights.code (r : Rights) : Nat := r.read.toNat + 2 * r.write.toNat + 4 * r.userOpen.toNat

def deliveryOfCode : Nat → Option Delivery
  | 0 => some .asSent
  | 1 => some .confirmed
  | _ => none

def Delivery.code : Delivery → Nat
  | .asSent => 0
  | .confirmed => 1

/-- Meter binding operand: 0 to 3, none FFh. -/
def bindingOfCode (n : Nat) : Option (Option (Fin 4)) :=
  if h : n < 4 then some (some ⟨n, h⟩) else if n = 255 then some none else none

def EntryState.code : EntryState → Nat
  | .free => 0
  | .active => 1
  | .draining => 2

def classOfCode : Nat → Option SourceClass
  | 0 => some .privileged
  | 1 => some .user
  | _ => none

def SourceClass.code : SourceClass → Nat
  | .privileged => 0
  | .user => 1

def policyOfCode : Nat → Option MissPolicy
  | 0 => some .park
  | 1 => some .refuse
  | _ => none

def MissPolicy.code : MissPolicy → Nat
  | .park => 0
  | .refuse => 1

def modeOfCode : Nat → Option Mode
  | 0 => some .openMode
  | 1 => some .guardMode
  | 2 => some .shutMode
  | _ => none

def Mode.code : Mode → Nat
  | .openMode => 0
  | .guardMode => 1
  | .shutMode => 2

def basisOfCode : Nat → Option Basis
  | 0 => some .requests
  | 1 => some .bytes64
  | _ => none

def Basis.code : Basis → Nat
  | .requests => 0
  | .bytes64 => 1

def meterActionOfCode : Nat → Option MeterAction
  | 0 => some .hold
  | 1 => some .refuse
  | _ => none

def MeterAction.code : MeterAction → Nat
  | .hold => 0
  | .refuse => 1

def MeterState.code : MeterState → Nat
  | .stopped => 0
  | .running => 1

/-- Fault kinds: NONE 0, then 1 to 15 in the order of the table of R127. -/
def FaultKind.code : FaultKind → Nat
  | .noFault => 0
  | .unknownSource => 1
  | .shutRefused => 2
  | .miss => 3
  | .crossing => 4
  | .rights => 5
  | .oversize => 6
  | .meterRefused => 7
  | .parkFull => 8
  | .parkExpired => 9
  | .answerTimeout => 10
  | .badAnswer => 11
  | .targetFault => 12
  | .lateAnswer => 13
  | .targetLost => 14
  | .mgmtDenied => 15

/-- Locus type code. -/
def Locus.typeCode : Locus → Nat
  | .nowhere => 0
  | .window _ => 1
  | .page _ => 2
  | .downTag _ => 3

/-- The number of a locus, absent for none (log 19). -/
def Locus.number : Locus → Option Nat
  | .nowhere => none
  | .window i => some i.val
  | .page p => some p.toNat
  | .downTag t => some t.toNat

def ReqKind.code : ReqKind → Nat
  | .read => 0
  | .write => 1
  | .post => 2

/-- Training state code (R169). -/
def Training.code : Training → Nat
  | .down => 0
  | .train => 1
  | .agree => 2
  | .up => 3
  | .mismatch => 4

/-- The indications byte of PORT_STATUS (R169). -/
def Indications.code (x : Indications) : Nat :=
  x.wentDown.toNat + 2 * x.cameUp.toNat + 4 * x.checkError.toNat + 8 * x.malformed.toNat
    + 16 * x.misplaced.toNat + 32 * x.creditError.toNat

/-- Upstream ANSWER status codes (R169). -/
def AnswerStatus.code : AnswerStatus → Byte
  | .ok => 0
  | .noWindow => 1
  | .denied => 2
  | .refused => 3
  | .busy => 4
  | .expired => 5
  | .timeout => 6
  | .targetErr => 7
  | .targetLost => 8
  | .aborted => 9

/-- Management statuses (R145). -/
inductive MgmtStatus where
  | ok
  | badRequest
  | badValue
  | denied
  | busy
  | entryBusy
  | overlap
  | notActive
  | narrowing
  | notPending
  | aborted
  deriving DecidableEq, Repr, Inhabited

/-- Management status codes (R145). -/
def MgmtStatus.code : MgmtStatus → Byte
  | .ok => 0
  | .badRequest => 1
  | .badValue => 2
  | .denied => 3
  | .busy => 4
  | .entryBusy => 5
  | .overlap => 6
  | .notActive => 7
  | .narrowing => 8
  | .notPending => 9
  | .aborted => 10

/-! ## The packet header (R169) -/

/-- Kind codes of the header. -/
def kindCode : PacketKind → Byte
  | .read => 1
  | .write => 2
  | .post => 3
  | .answer => 4
  | .mreq => 5
  | .mreply => 6
  | .alert => 7
  | .unknown c => c

/-- The kind a header code names, `unknown` where it names none. -/
def kindOfCode (c : Byte) : PacketKind :=
  match c.toNat with
  | 1 => .read
  | 2 => .write
  | 3 => .post
  | 4 => .answer
  | 5 => .mreq
  | 6 => .mreply
  | 7 => .alert
  | _ => .unknown c

/-- The 16 header bytes and the payload of a packet (R169); the check sequence after them is not given. -/
def packetBytes (p : Packet) : List Byte :=
  [kindCode p.kind, p.source.setWidth 8, p.dest.setWidth 8, p.tag, p.status]
    ++ leBytes 2 p.length ++ leBytes 5 p.address.toNat ++ leBytes 2 p.payload.length ++ [0, 0] ++ p.payload

/-- The packet that bytes spell: a 16-byte header, then a payload of the length the header gives (R169).
Bits 7 and 6 of the id bytes and bytes 14 and 15 are not looked at (log 13). -/
def packetOfBytes (bs : List Byte) : Option Packet :=
  if 16 ≤ bs.length ∧ bs.length = 16 + fieldAt bs 12 2 then
    some { kind := kindOfCode (bs.getD 0 0), source := (bs.getD 1 0).setWidth 6, dest := (bs.getD 2 0).setWidth 6,
           tag := bs.getD 3 0, status := bs.getD 4 0, length := fieldAt bs 5 2,
           address := BitVec.ofNat 40 (fieldAt bs 7 5), payload := bs.drop 16 }
  else none

/-! ## Packets the bridge sends -/

/-- An upstream ANSWER (R59, R100): the source field is BID. -/
def answerPacket (s : State) (dest : SourceId) (tag : Tag) (status : AnswerStatus) (length : Nat)
    (data : List Byte) : Packet :=
  { kind := .answer, source := s.straps.bid, dest := dest, tag := tag, status := status.code, length := length,
    address := 0, payload := data }

/-- An MREPLY to a source under a tag (R146): request code, status, results (R156). -/
def mreplyPacket (s : State) (dest : SourceId) (tag : Tag) (code : Byte) (status : MgmtStatus)
    (results : List Byte) : Packet :=
  { kind := .mreply, source := s.straps.bid, dest := dest, tag := tag, status := 0, length := 0, address := 0,
    payload := code :: status.code :: results }

/-! ## Results of the management requests (R156) -/

/-- The five bytes of a domain record. -/
def DomainRecord.bytes (r : DomainRecord) : List Byte :=
  [flagByte r.valid] ++ leBytes 1 r.domain.val ++ leBytes 1 r.sourceClass.code ++ leBytes 1 r.missPolicy.code
    ++ [flagByte r.mayManage]

/-- The results of READ_WINDOW after the index. -/
def WindowEntry.bytes (e : WindowEntry) : List Byte :=
  leBytes 1 e.state.code ++ leBytes 1 e.domain.code ++ leBytes 5 e.cardBase.toNat ++ leBytes 1 e.sizeExp
    ++ leBytes 5 e.memBase.toNat ++ leBytes 1 e.rights.code ++ leBytes 1 e.delivery.code
    ++ optBytes 1 (e.meter.map Fin.val) ++ leBytes 1 e.inFlight ++ leBytes 4 e.admissions.toNat

/-- The meter record of 17 bytes; the next values are FFFFh where absent. -/
def Meter.bytes (m : Meter) : List Byte :=
  leBytes 1 m.state.code ++ leBytes 1 m.basis.code ++ leBytes 2 m.period ++ leBytes 2 m.budget
    ++ leBytes 1 m.action.code ++ [flagByte m.buffered] ++ [flagByte m.next.isSome]
    ++ optBytes 2 (m.next.map NextValues.period) ++ optBytes 2 (m.next.map NextValues.budget)
    ++ leBytes 2 m.periodCount ++ leBytes 2 m.used

/-- The results of READ_FAULT after the index. -/
def FaultRecord.bytes (r : FaultRecord) : List Byte :=
  [flagByte r.pending] ++ leBytes 1 r.info.kind.code ++ optBytes 1 (r.info.source.map BitVec.toNat)
    ++ leBytes 1 r.info.locus.typeCode ++ optBytes 4 r.info.locus.number
    ++ optBytes 1 (r.info.reqKind.map ReqKind.code) ++ optBytes 5 (r.info.address.map BitVec.toNat)
    ++ leBytes 4 r.firstTick.toNat ++ leBytes 1 r.repeatCount

/-- The results of PORT_STATUS after the port code (R169). -/
def PortState.bytes (p : PortState) : List Byte :=
  leBytes 1 p.training.code ++ optBytes 2 p.negotiated ++ leBytes 1 p.credits ++ leBytes 1 p.rx.length
    ++ leBytes 1 p.tx.length ++ leBytes 1 p.indications.code

/-- The identity record (R153): vendor, part, revision, the capacities, the payload code and the straps. -/
def identityBytes (st : Straps) : List Byte :=
  leBytes 2 0x2D17 ++ leBytes 2 0x6440 ++ leBytes 1 1 ++ leBytes 1 64 ++ leBytes 1 32 ++ leBytes 1 16
    ++ leBytes 1 16 ++ leBytes 1 4 ++ leBytes 2 256 ++ leBytes 1 st.msrc.toNat
    ++ leBytes 1 (Mode.ofStrap st.smode).code ++ leBytes 1 st.bid.toNat

end Sys2Proof.Machine
end

