-- ==== Sys2Proof/Machine/FaultLogOps.lean ====
section
/-! DEFINITION. The fault log and the alert controller (Chapter 7): recording a fault, the summary, the
alert's conditions and events. -/

namespace Sys2Proof.Machine

/-! ## The log -/

/-- Two faults have the same key: kind, source id and locus are equal (R127). -/
def FaultInfo.sameKey (a b : FaultInfo) : Bool :=
  decide (a.kind = b.kind) && decide (a.source = b.source) && decide (a.locus = b.locus)

/-- The number of pending records (R130). -/
def FaultLog.pendingCount (l : FaultLog) : Nat := countTable FaultRecord.pending l.records

/-- The first pending record met when the records are scanned forward from the write position (R132). -/
def FaultLog.firstPending (l : FaultLog) : Option (Fin 16) :=
  ((List.finRange 16).map fun i => l.writePos + i).find? fun i => (l.records[i]).pending

/-- A record with its repeat count raised, up to 255 (R126, R128 case 1). -/
def FaultRecord.bump (r : FaultRecord) : FaultRecord :=
  { r with repeatCount := if r.repeatCount < 255 then r.repeatCount + 1 else r.repeatCount }

/-- The log after a recording, and whether the recording is an alert condition: the four cases of R128. -/
def FaultLog.record (l : FaultLog) (f : FaultInfo) (now : Tick) : FaultLog × Bool :=
  match findIndex (fun r : FaultRecord => r.pending && r.info.sameKey f) l.records with
  | some i => ({ l with records := setAt l.records i (l.records[i]).bump }, false)
  | none =>
    if l.overflow then (l, false)
    else if (l.records[l.writePos]).pending then ({ l with overflow := true }, true)
    else
      ({ l with
          records := setAt l.records l.writePos { pending := true, info := f, firstTick := now, repeatCount := 0 }
          writePos := l.writePos + 1 },
        l.pendingCount == 0)

/-- The four bytes of the log's summary (R156): pending count, first pending index, overflow, write position. -/
def FaultLog.summary (l : FaultLog) : List Byte :=
  leBytes 1 l.pendingCount ++ optBytes 1 (l.firstPending.map Fin.val) ++ [flagByte l.overflow]
    ++ leBytes 1 l.writePos.val

/-! ## The alert controller -/

/-- A condition of the log (R139). -/
def AlertCtl.condition (a : AlertCtl) (cUp : Bool) : AlertCtl :=
  if a.due then { a with pending := false }
  else if !a.mask && cUp then { a with pending := false, due := true }
  else { a with pending := true }

/-- A pending alert is made due when the mask is clear and the C-port is UP (R140). -/
def AlertCtl.release (a : AlertCtl) (cUp : Bool) : AlertCtl :=
  if a.pending && !a.mask && cUp then { a with pending := false, due := true } else a

/-- A due ALERT is withdrawn and held as pending (R140). -/
def AlertCtl.withdraw (a : AlertCtl) : AlertCtl :=
  if a.due then { a with due := false, pending := true } else a

/-- A SET_SETTING of ALERT_MASK: clearing the mask releases a pending alert, setting it withdraws a due
one, and the value already held changes nothing (R140). -/
def AlertCtl.writeMask (a : AlertCtl) (mask cUp : Bool) : AlertCtl :=
  if a.mask == mask then a
  else if mask then { a with mask := true }.withdraw
  else { a with mask := false }.release cUp

/-- The alert is serviced: pending and due are cleared (R141). -/
def AlertCtl.serviced (a : AlertCtl) : AlertCtl := { a with pending := false, due := false }

/-! ## On the state -/

/-- Hands a fault to the log at the current tick (R128) and, on a condition, tells the alert controller
(R139). -/
def recordFault (f : FaultInfo) (s : State) : State :=
  let r := s.log.record f s.tick
  let t := s.setLog r.1
  if r.2 then t.setAlert (t.alert.condition t.cUp) else t

/-- Records a fault where there is one. -/
def recordOpt (f : Option FaultInfo) (s : State) : State :=
  match f with
  | some f => recordFault f s
  | none => s

/-- The alert is serviced when the pending count is 0 while the overflow flag is clear (R134, R135, R141). -/
def serviceAlert (s : State) : State :=
  if s.log.pendingCount == 0 && !s.log.overflow then s.setAlert s.alert.serviced else s

/-- The ALERT packet (R142, R169): a snapshot of the log at the placing. -/
def alertPacket (s : State) : Packet :=
  { kind := .alert, source := s.straps.bid, dest := s.alert.dest, tag := 0, status := 0, length := 0, address := 0,
    payload := leBytes 1 s.log.pendingCount ++ optBytes 1 (s.log.firstPending.map Fin.val)
      ++ [flagByte s.log.overflow] ++ leBytes 4 s.tick.toNat }

end Sys2Proof.Machine
end

