-- ==== Sys2Proof/Machine/Admission.lean ====
section
/-! DEFINITION. The window lookup (Chapter 1), the admission path of each mode (Chapter 3), and the
forwarding of a request. `judge` decides a run; `forwardRequest`, `answerError` and `parkFresh` act. -/

namespace Sys2Proof.Machine

/-! ## Match and translation -/

/-- The end of the window: card base plus 2^size exponent (R1). -/
def WindowEntry.limit (e : WindowEntry) : Nat := e.cardBase.toNat + 2 ^ e.sizeExp

/-- The entry serves sources of domain `d`: its domain is `d` or SHARED (R4). -/
def WindowEntry.serves (e : WindowEntry) (d : Fin 16) : Bool :=
  decide (e.domain = .numbered d) || decide (e.domain = .shared)

/-- The entry matches a request of domain `d` at card address `a` (R4). -/
def WindowEntry.admits (e : WindowEntry) (d : Fin 16) (a : Addr) : Bool :=
  decide (e.state = .active) && e.serves d && decide (e.cardBase.toNat ≤ a.toNat) && decide (a.toNat < e.limit)

/-- The entry that lookup finds, or none (R4, R5). -/
def lookup (s : State) (d : Fin 16) (a : Addr) : Option (Fin 64) :=
  findIndex (fun e : WindowEntry => e.admits d a) s.windows

/-- The memory address of a request forwarded through the entry (R7). -/
def WindowEntry.translate (e : WindowEntry) (a : Addr) : Addr := e.memBase + (a - e.cardBase)

/-! ## What a request needs -/

/-- The matched window grants the request's kind to its source's class (R50). -/
def rightsGrant (e : WindowEntry) (c : SourceClass) (k : ReqKind) : Bool :=
  (match k with
   | .read => e.rights.read
   | .write | .post => e.rights.write)
  && (match c with
      | .privileged => true
      | .user => e.rights.userOpen)

/-- The cost of a request at a meter (R114). -/
def Meter.cost (m : Meter) (length : Nat) : Nat :=
  match m.basis with
  | .requests => 1
  | .bytes64 => (length + 63) / 64

/-- What the meter step does with a request (R51). -/
inductive MeterVerdict where
  | pass
  | refuse
  | hold
  deriving DecidableEq, Repr, Inhabited

/-- The meter step's comparison for a bound meter (R51, R117). -/
def Meter.verdict (m : Meter) (length : Nat) : MeterVerdict :=
  match m.state with
  | .stopped => .pass
  | .running =>
    if m.budget < m.cost length then .refuse
    else if m.used + m.cost length ≤ m.budget then .pass
    else match m.action with
      | .hold => .hold
      | .refuse => .refuse

/-- The kind of slot the forwarding of a request takes: none for a POST in OPEN mode or through an AS_SENT
window, CONFIRM for a POST through a CONFIRMED window (R45, R46, R53, R58). -/
def slotKindFor (w : Option WindowEntry) (k : ReqKind) : Option SlotKind :=
  match k with
  | .read => some .read
  | .write => some .write
  | .post =>
    match w with
    | some e => if e.delivery = .confirmed then some .confirm else none
    | none => none

/-- The free list offers a slot: it is not empty and the answer hold list is (R93, R106). -/
def State.slotOffered (s : State) : Bool := !s.freeList.isEmpty && s.holdList.isEmpty

/-- The resources a request needs to be forwarded are at hand (R45). -/
def resourcesAtHand (s : State) (k : Option SlotKind) : Bool :=
  s.mPlaceFree && (k.isNone || s.slotOffered)

/-- The length exceeds the payload negotiated on the M-port; while the M-port is not UP there is none (R44). -/
def oversize (s : State) (length : Nat) : Bool :=
  match s.mPort.negotiated with
  | some p => s.mUp && decide (p < length)
  | none => false

/-! ## The judgement -/

/-- The outcome of a run of the admission path (R40): forwarded through a window or in OPEN mode, parked with a
reason and the fault the lookup step records, or answered with an error and the fault of the step. -/
inductive Decision where
  | forward (w : Option (Fin 64))
  | park (r : ParkReason) (fault : Option FaultInfo)
  | refuse (status : AnswerStatus) (fault : FaultInfo)
  deriving DecidableEq, Repr

/-- A fault of the admission path: source id, request kind and card address of the request (R61). -/
def requestFault (kind : FaultKind) (locus : Locus) (r : Request) : FaultInfo :=
  { kind := kind, source := some r.source, locus := locus, reqKind := some r.kind, address := some r.address }

/-- The OPEN path: BEHIND, oversize, resources, forward (R46). -/
def judgeOpen (s : State) (r : Request) (behind : Bool) : Decision :=
  if behind then .park .behind none
  else if oversize s r.length then .refuse .denied (requestFault .oversize (.page (pageOf r.address)) r)
  else if !resourcesAtHand s (slotKindFor none r.kind) then .park .slot none
  else if !s.mUp then .refuse .targetLost (requestFault .targetLost .nowhere r)
  else .forward none

/-- Steps 8 to 10 of the GUARD path: M-port, resources, forward (R52, R45, R53). -/
def judgeUnmetered (s : State) (r : Request) (i : Fin 64) : Decision :=
  if !s.mUp then .refuse .targetLost (requestFault .targetLost .nowhere r)
  else if !resourcesAtHand s (slotKindFor (some s.windows[i]) r.kind) then .park .slot none
  else .forward (some i)

/-- Steps 6 to 10 of the GUARD path: oversize, meter (R44, R51), then `judgeUnmetered`. -/
def judgeWindowed (s : State) (r : Request) (i : Fin 64) : Decision :=
  if oversize s r.length then .refuse .denied (requestFault .oversize (.window i) r)
  else
    match (s.windows[i]).meter with
    | none => judgeUnmetered s r i
    | some m =>
      match (s.meters[m]).verdict r.length with
      | .refuse => .refuse .busy (requestFault .meterRefused (.window i) r)
      | .hold => .park (.meter m) none
      | .pass => judgeUnmetered s r i

/-- The GUARD path: source, BEHIND, lookup, crossing and rights (R47 to R50), then `judgeWindowed`. -/
def judgeGuard (s : State) (r : Request) (behind : Bool) : Decision :=
  let rec0 := s.domains[sourceIndex r.source]
  if !rec0.valid then .refuse .refused (requestFault .unknownSource .nowhere r)
  else if behind then .park .behind none
  else
    match lookup s rec0.domain r.address with
    | none =>
      let f := requestFault .miss (.page (pageOf r.address)) r
      match rec0.missPolicy with
      | .park => .park .miss (some f)
      | .refuse => .refuse .noWindow f
    | some i =>
      if (s.windows[i]).limit < r.address.toNat + r.length then
        .refuse .denied (requestFault .crossing (.window i) r)
      else if !rightsGrant s.windows[i] rec0.sourceClass r.kind then
        .refuse .denied (requestFault .rights (.window i) r)
      else judgeWindowed s r i

/-- A run of the admission path of the current mode (R41). `behind` tells whether an older item of the
source stands in the park queue (R43). -/
def judge (s : State) (r : Request) (behind : Bool) : Decision :=
  match s.mode with
  | .shutMode => .refuse .refused (requestFault .shutRefused .nowhere r)
  | .openMode => judgeOpen s r behind
  | .guardMode => judgeGuard s r behind

/-! ## Forwarding -/

/-- The downstream tag of a slot: generation x 32 + index (R95). -/
def downstreamTag (generation : BitVec 3) (i : Fin 32) : Tag := BitVec.ofNat 8 (generation.toNat * 32 + i.val)

/-- The packet a request goes to memory as (R54): a POST through a CONFIRMED window goes as a WRITE. -/
def forwardPacket (k : Option SlotKind) (r : Request) (downTag : Tag) (memAddr : Addr) : Packet :=
  { kind := match k with
      | some .read => .read
      | some .write | some .confirm => .write
      | none => .post
    source := r.source, dest := 0, tag := downTag, status := 0, length := r.length, address := memAddr,
    payload := r.data }

/-- Step 1 of R53: a RUNNING meter bound to the window is charged the cost of the request. -/
def chargeMeter (e : WindowEntry) (length : Nat) (s : State) : State :=
  match e.meter with
  | none => s
  | some m =>
    let x := s.meters[m]
    if x.state = .running then s.setMeter m { x with used := x.used + x.cost length } else s

/-- The slot record that an allocation writes (R94). -/
def allocatedSlot (old : Slot) (k : SlotKind) (w : Option (Fin 64)) (r : Request) (deadline : Tick) : Slot :=
  { old with
    state := .waiting, origin := r.source, upTag := if k = .confirm then none else r.tag, kind := k, window := w,
    length := r.length, deadline := deadline, overdue := false, drainMark := false, overdueFor := 0 }

/-- Takes the slot at the head of the free list, if the request needs one, and gives its downstream tag; a
request that needs none has tag 0 (R53 step 2, R94, R54). The window's in-flight count rises (R8). -/
def takeSlot (k : Option SlotKind) (w : Option (Fin 64)) (r : Request) (s : State) : Tag × State :=
  match k, s.freeList with
  | some k, i :: rest =>
    let old := s.slots[i]
    let t := (s.setSlot i (allocatedSlot old k w r (s.tick + BitVec.ofNat 32 s.answerTimeout))).setFreeList rest
    (downstreamTag old.generation i,
      match w with
      | some j => t.setWindow j { t.windows[j] with inFlight := (t.windows[j]).inFlight + 1 }
      | none => t)
  | _, _ => (0, s)

/-- Step 3 of R53: the window's admissions rise by 1, wrapping (R10). -/
def countAdmission (w : Option (Fin 64)) (s : State) : State :=
  match w with
  | some j => s.setWindow j { s.windows[j] with admissions := (s.windows[j]).admissions + 1 }
  | none => s

/-- Forwards a request that has passed every check: charge, slot, count, translate, send (R53); in OPEN mode
slot and send alone, at the card address (R46). -/
def forwardRequest (w : Option (Fin 64)) (r : Request) (s : State) : State :=
  let e := w.map fun i => s.windows[i]
  let k := slotKindFor e r.kind
  let charged := match e with
    | some e => chargeMeter e r.length s
    | none => s
  let taken := takeSlot k w r charged
  let counted := countAdmission w taken.2
  let memAddr := match e with
    | some e => e.translate r.address
    | none => r.address
  counted.setMPort (counted.mPort.enqueue (forwardPacket k r taken.1 memAddr))

/-! ## Answering and parking a request taken from the C-port -/

/-- The error ANSWER of R59 to a READ or WRITE, with the request's upstream tag and length and no data; a POST
is dropped (R58). -/
def answerError (status : AnswerStatus) (r : Request) (s : State) : State :=
  match r.kind, r.tag with
  | .read, some t | .write, some t => placeC (answerPacket s r.source t status r.length []) s
  | _, _ => s

/-- The serial number a new item takes (log 18). -/
def nextSerial (s : State) : Nat :=
  match s.park.getLast? with
  | some it => it.serial + 1
  | none => 0

/-- Parks a request taken from the C-port at the tail of the queue, or answers it BUSY with PARK_FULL when the
queue holds 16 items; the fault of the parking step is recorded before PARK_FULL (R56). -/
def parkFresh (reason : ParkReason) (fault : Option FaultInfo) (r : Request) (s : State) : State :=
  if s.park.length < capacity then
    recordOpt fault (s.setPark (s.park ++ [{ serial := nextSerial s, state := .parked reason, arrival := s.tick,
                                             req := r, expiryDue := false }]))
  else
    recordFault (requestFault .parkFull (.page (pageOf r.address)) r) (recordOpt fault (answerError .busy r s))

/-- The park queue holds an item of the source (R43). -/
def hasItemOf (src : SourceId) (items : List ParkItem) : Bool := items.any fun it => it.req.source == src

/-- The run of a request taken from the C-port (R40): the answer is placed before the fault is recorded. -/
def runFresh (r : Request) (s : State) : State :=
  match judge s r (hasItemOf r.source s.park) with
  | .forward w => forwardRequest w r s
  | .park reason fault => parkFresh reason fault r s
  | .refuse status fault => recordFault fault (answerError status r s)

end Sys2Proof.Machine
end

