-- ==== Sys2Proof/Machine/ParkQueue.lean ====
section
/-! DEFINITION. The park queue (Chapter 4): re-admission, the BEHIND cascade, the triggers, the expiry marks,
and the ending of items by a mode change or a warm reset. -/

namespace Sys2Proof.Machine

/-- The item is PARKED with a reason that `hits` names. -/
def ParkItem.waitsFor (hits : ParkReason → Bool) (it : ParkItem) : Bool :=
  match it.state with
  | .parked r => hits r
  | .leaving _ _ => false

/-- The item is PARKED. -/
def ParkItem.isParked (it : ParkItem) : Bool := it.waitsFor fun _ => true

/-- The item is LEAVING. -/
def ParkItem.isLeaving (it : ParkItem) : Bool := !it.isParked

/-- The item of a serial number. -/
def itemOf (serial : Nat) (items : List ParkItem) : Option ParkItem := items.find? fun it => it.serial == serial

/-- The items that stand ahead of an item (R43). -/
def aheadOf (serial : Nat) (items : List ParkItem) : List ParkItem := items.takeWhile fun it => it.serial != serial

/-- The item leaves and the places behind it close up (R72). -/
def removeItem (serial : Nat) (s : State) : State := s.setPark (s.park.eraseP fun it => it.serial == serial)

/-- The item takes a new state in its place (R57, R74). -/
def setItemState (serial : Nat) (st : ItemState) (s : State) : State :=
  s.setPark (s.park.map fun it => if it.serial == serial then { it with state := st } else it)

/-- The item the BEHIND trigger of a source names: its oldest remaining item, if its reason is BEHIND (R75). -/
def behindNext (src : SourceId) (items : List ParkItem) : Option Nat :=
  match items.find? fun it => it.req.source == src with
  | some it => if it.waitsFor (· == .behind) then some it.serial else none
  | none => none

/-- The state a re-admitted item is judged against: the state as it stands (R74). While the M-port is not UP nothing can
be forwarded, and a SLOT item is answered TARGET_LOST or dropped (R78, R108) also while the answer hold list holds an
entry, which parks only the requests that R46 and R106 judge (log 16). -/
def judgedFor (it : ParkItem) (s : State) : State :=
  if !s.mUp && it.waitsFor (· == .slot) then s.setHoldList [] else s

/-- The judgement of a re-admission run: no older item of the source stands ahead, or the item is BEHIND (R74, R43). -/
def judgeItem (it : ParkItem) (s : State) : Decision :=
  judge (judgedFor it s) it.req (hasItemOf it.req.source (aheadOf it.serial s.park))

/-- What one re-admission run does: the state after it, and whether the item has left (R74). `used` counts the C send
places that the event of the run has used without placing a packet there (R83). -/
def readmitOnce (it : ParkItem) (s : State) (used : Nat := 0) : State × Bool :=
  match judgeItem it s with
  | .forward w => (removeItem it.serial (forwardRequest w it.req s), true)
  | .park reason fault => (recordOpt fault (setItemState it.serial (.parked reason) s), false)
  | .refuse status fault =>
    if it.req.kind = .post ∨ s.cFreeBeside used then
      (removeItem it.serial (recordFault fault (answerError status it.req s)), true)
    else (setItemState it.serial (.leaving status fault) s, false)

/-- Re-admits an item and, when it leaves, its source's next BEHIND item, and so on: the cascade of R75.
Every further run follows a departure, so as many runs as the queue has items are enough. -/
def readmit (fuel serial : Nat) (s : State) (used : Nat := 0) : State :=
  match fuel with
  | 0 => s
  | fuel + 1 =>
    match itemOf serial s.park with
    | none => s
    | some it =>
      let r := readmitOnce it s used
      if r.2 then
        match behindNext it.req.source r.1.park with
        | some next => readmit fuel next r.1 used
        | none => r.1
      else r.1

/-- Gives the BEHIND trigger of a source whose item has left (R75). -/
def behindTrigger (src : SourceId) (s : State) (used : Nat := 0) : State :=
  match behindNext src s.park with
  | some serial => readmit s.park.length serial s used
  | none => s

/-- The turn of one item of a trigger's set: passed over if it no longer waits for the trigger (R73). -/
def triggerTurn (hits : ParkReason → Bool) (s : State) (serial : Nat) : State :=
  match itemOf serial s.park with
  | some it => if it.waitsFor hits then readmit s.park.length serial s else s
  | none => s

/-- A trigger: its set is fixed when it is taken, and its items are re-admitted in queue order (R73). -/
def trigger (hits : ParkReason → Bool) (s : State) : State :=
  ((s.park.filter (ParkItem.waitsFor hits)).map ParkItem.serial).foldl (triggerTurn hits) s

/-- The MISS trigger (R76). -/
def missTrigger (s : State) : State := trigger (· == .miss) s

/-- The METER trigger of meter `m` (R77). -/
def meterTrigger (m : Fin 4) (s : State) : State := trigger (· == .meter m) s

/-- One event gives one SLOT trigger (R78, R105). It is taken within the event that gives it, or, where the model's
input `slotTriggerWaits` says so, it becomes due and is taken in a step of its own, so that other events may fall before
it (R79, R45, R164). R98 has the router finish an answer with all the effects of freeing its slot before it takes the
next; that a waiting trigger is not among those effects, so that the next answer may be taken before it, is the model's
choice with the rest (log 30). -/
def slotTrigger (s : State) : State :=
  if s.slotTriggerWaits then s.setSlotTriggersDue (s.slotTriggersDue + 1) else trigger (· == .slot) s

/-- The oldest due SLOT trigger is taken (R73, R79; log 30). -/
def takeDueTrigger (s : State) : State :=
  if s.slotTriggersDue = 0 then s else trigger (· == .slot) (s.setSlotTriggersDue (s.slotTriggersDue - 1))

/-- Every due SLOT trigger is taken, one after another (R73; log 30). -/
def takeDueTriggers (s : State) : State :=
  Nat.repeat (trigger (· == .slot)) s.slotTriggersDue (s.setSlotTriggersDue 0)

/-! ## Expiry marks -/

/-- The item's age has reached the park limit in force (R82). -/
def ParkItem.reachedLimit (now : Tick) (limit : Nat) (it : ParkItem) : Bool := decide (limit ≤ age now it.arrival)

/-- Sets the expiry due mark of every PARKED item whose age has reached the park limit (R82, R85). -/
def markExpired (s : State) : State :=
  s.setPark (s.park.map fun it =>
    if it.isParked && it.reachedLimit s.tick s.parkLimit then { it with expiryDue := true } else it)

/-! ## Emptying the queue -/

/-- The ABORTED answer of one item: placed if a place is free, else at the tail of the abort list; discarded
when the C-port is not UP; none for a POST (R86, R87; log 25). -/
def abortItem (fromModeChange : Bool) (s : State) (it : ParkItem) : State :=
  match it.req.kind, it.req.tag with
  | .read, some t | .write, some t =>
    if s.cFree then placeC (answerPacket s it.req.source t .aborted it.req.length []) s
    else s.setAbortList (s.abortList ++ [{ dest := it.req.source, tag := t, length := it.req.length,
                                           fromModeChange := fromModeChange }])
  | _, _ => s

/-- Ends every item of the queue in queue order, PARKED and LEAVING alike (R86, R88). -/
def abortPark (fromModeChange : Bool) (s : State) : State :=
  s.park.foldl (abortItem fromModeChange) (s.setPark [])

/-- Records the decided fault of a LEAVING item that is discarded (R81, R89). -/
def recordLeavingFault (s : State) (it : ParkItem) : State :=
  match it.state with
  | .leaving _ fault => recordFault fault s
  | .parked _ => s

end Sys2Proof.Machine
end

