-- ==== Sys2Proof/Machine/Outstanding.lean ====
section
/-! DEFINITION. The outstanding table (Chapter 5): deferred replies, the completion of long operations, the
freeing of slots, and the answers and faults of the router. -/

namespace Sys2Proof.Machine

/-! ## Deferred replies and the end of long operations -/

/-- Adds a reply that has fallen due to the management reply list, or discards it when the C-port is not UP
(R147). -/
def listReply (pkt : Packet) (abortAhead holdAhead : Nat) (s : State) : State :=
  if s.cUp then
    s.setReplies (s.replies ++ [{ packet := pkt, abortAhead := abortAhead, holdAhead := holdAhead }])
  else s

/-- Request code of RETIRE (R156). -/
def retireCode : Byte := 0x09

/-- Request code of SET_MODE (R156). -/
def setModeCode : Byte := 0x0A

/-- The results of RETIRE: retired count and widened flag (R22, R156). -/
def retireResults (retired : Nat) (widened : Bool) : List Byte := leBytes 1 retired ++ [flagByte widened]

/-- The results of SET_MODE: old mode and marked count (R64, R156). -/
def setModeResults (oldMode : Mode) (marked : Nat) : List Byte := leBytes 1 oldMode.code ++ leBytes 1 marked

/-- Some entry of the window table is DRAINING. -/
def State.anyDraining (s : State) : Bool := anyTable (fun e : WindowEntry => e.state == .draining) s.windows

/-- Some slot carries a drain mark. -/
def State.anyMarked (s : State) : Bool := anyTable Slot.drainMark s.slots

/-- A RETIRE in progress completes when no entry is DRAINING: the kind becomes NONE and the deferred reply,
status OK, falls due (R23, R148). It waits for a C send place only (R147). -/
def completeRetire (s : State) : State :=
  match s.longOp with
  | .retire src tag retired widened =>
    if s.anyDraining then s
    else
      listReply (mreplyPacket s src tag retireCode .ok (retireResults retired widened)) 0 0 (s.setLongOp .idle)
  | .idle | .setMode _ _ _ _ => s

/-- A SET_MODE in progress completes when no slot carries a mark (R65, R66, R148). R147 lets a deferred reply go with a
free C send place only, and says of a SET_MODE's reply that it waits for the ABORTED answers of its request; the deferred
reply waits for none of them here, as the model's choice (log 32). -/
def completeSetMode (s : State) : State :=
  match s.longOp with
  | .setMode src tag oldMode marked =>
    if s.anyMarked then s
    else
      listReply (mreplyPacket s src tag setModeCode .ok (setModeResults oldMode marked)) 0 0 (s.setLongOp .idle)
  | .idle | .retire _ _ _ _ => s

/-! ## Freeing a slot -/

/-- A slot as freeing leaves it: FREE, generation advanced, marks cleared, the rest retained (R91, R104). -/
def Slot.freed (x : Slot) : Slot :=
  { x with state := .free, generation := x.generation + 1, overdue := false, drainMark := false }

/-- A window entry whose in-flight count falls by 1; a DRAINING entry that reaches 0 becomes FREE (R9). -/
def WindowEntry.lowered (e : WindowEntry) : WindowEntry :=
  { e with
    inFlight := e.inFlight - 1
    state := if e.state = .draining ∧ e.inFlight - 1 = 0 then .free else e.state }

/-- The four steps of R104, then the completion of a long operation that they bring about (R105, log 6). -/
def freeSlot (i : Fin 32) (s : State) : State :=
  let x := s.slots[i]
  let a := s.setSlot i x.freed
  let b := match x.window with
    | some j => a.setWindow j (a.windows[j]).lowered
    | none => a
  completeSetMode (completeRetire (b.setFreeList (b.freeList ++ [i])))

/-- A slot is freed by an event of its own, which gives the SLOT trigger (R105, R78); when that trigger is taken is
said at `slotTrigger` (log 30). -/
def slotFreed (i : Fin 32) (s : State) : State := slotTrigger (freeSlot i s)

/-! ## The router's answers and faults -/

/-- The request kind of a slot's fault (R107). -/
def SlotKind.reqKind : SlotKind → ReqKind
  | .read => .read
  | .write => .write
  | .confirm => .post

/-- The window locus of a slot's fault, none for a slot without a window (R107). -/
def Slot.locus (x : Slot) : Locus :=
  match x.window with
  | some j => .window j
  | none => .nowhere

/-- A fault of the router about a slot (R107). -/
def slotFault (kind : FaultKind) (locus : Locus) (x : Slot) : FaultInfo :=
  { kind := kind, source := some x.origin, locus := locus, reqKind := some x.kind.reqKind, address := none }

/-- Places the upstream ANSWER of a READ or WRITE slot (R97, R100); a CONFIRM slot has none. -/
def answerSlot (x : Slot) (status : AnswerStatus) (data : List Byte) (s : State) : State :=
  match x.kind, x.upTag with
  | .read, some t | .write, some t => placeC (answerPacket s x.origin t status x.length data) s
  | _, _ => s

/-- The answer of a slot that a loss or a warm reset frees: placed if a place is free, discarded when the C-port
is not UP, else at the tail of the answer hold list (R106, R108, R110). -/
def answerOrHold (x : Slot) (status : AnswerStatus) (s : State) : State :=
  if s.cFree then answerSlot x status [] s
  else
    match x.kind, x.upTag with
    | .read, some t | .write, some t =>
      s.setHoldList (s.holdList ++ [{ dest := x.origin, tag := t, length := x.length, status := status }])
    | _, _ => s

/-- The deadline expiry of a slot: TIMEOUT for a READ or WRITE, fault ANSWER_TIMEOUT, and the freeing (R97). -/
def expireSlot (i : Fin 32) (s : State) : State :=
  let x := s.slots[i]
  slotFreed i (recordFault (slotFault .answerTimeout x.locus x) (answerSlot x .timeout [] s))

/-- The slot is WAITING and the timebase has reached its deadline tick, and it is not marked yet (R97). -/
def Slot.reachesDeadline (x : Slot) (now : Tick) : Bool :=
  x.state == .waiting && !x.overdue && x.deadline == now

/-- The slot becomes overdue; the expiry of a CONFIRM slot is taken at the same time (R97). -/
def slotBecomesOverdue (i : Fin 32) (s : State) : State :=
  let x := s.slots[i]
  if x.reachesDeadline s.tick then
    let t := s.setSlot i { x with overdue := true }
    if x.kind = .confirm then expireSlot i t else t
  else s

/-- An overdue READ or WRITE slot, whose expiry is one of the router's claims (R97). -/
def Slot.claimsExpiry (x : Slot) : Bool := x.state == .waiting && x.overdue && x.kind != .confirm

/-- Of two candidates the one that became overdue first, which has been overdue for more ticks; the earlier candidate,
of lower index, on a tie (R97; log 15). -/
def earlierOverdue (s : State) (best : Option (Fin 32)) (i : Fin 32) : Option (Fin 32) :=
  if (s.slots[i]).claimsExpiry then
    match best with
    | none => some i
    | some b => if (s.slots[b]).overdueFor < (s.slots[i]).overdueFor then some i else some b
  else best

/-- The overdue READ or WRITE slot that became overdue first, the lower index first on the same tick (R97). -/
def firstOverdue (s : State) : Option (Fin 32) := (List.finRange 32).foldl (earlierOverdue s) none

/-! ## Answers from memory -/

/-- The slot that a downstream tag names (R95). -/
def slotOfTag (t : Tag) : Fin 32 := ⟨t.toNat % 32, Nat.mod_lt _ (by decide)⟩

/-- The answer matches: the slot is WAITING and of the tag's generation (R99). -/
def Slot.matchesTag (x : Slot) (t : Tag) : Bool :=
  x.state == .waiting && x.generation.toNat == t.toNat / 32

/-- The READ data of an answer fits the C-port's negotiated payload at the placing (R100). -/
def fitsCPayload (s : State) (n : Nat) : Bool :=
  match s.cPort.negotiated with
  | some p => decide (n ≤ p)
  | none => true

/-- Routes a matching answer by the slot's kind, with its fault (R100, R101). Status 0 is OK, else FAIL. -/
def routeMatched (x : Slot) (pkt : Packet) (s : State) : State :=
  match x.kind with
  | .read =>
    if pkt.status ≠ 0 then answerSlot x .targetErr [] s
    else if pkt.payload.length ≠ x.length then
      recordFault (slotFault .badAnswer x.locus x) (answerSlot x .targetErr [] s)
    else if fitsCPayload s pkt.payload.length then answerSlot x .ok pkt.payload s
    else answerSlot x .targetErr [] s
  | .write => answerSlot x (if pkt.status = 0 then .ok else .targetErr) [] s
  | .confirm => if pkt.status = 0 then s else recordFault (slotFault .targetFault x.locus x) s

/-- Routes an answer from memory: matched, routed and its slot freed, or late and discarded (R99). -/
def routeAnswer (pkt : Packet) (s : State) : State :=
  let i := slotOfTag pkt.tag
  let x := s.slots[i]
  if x.matchesTag pkt.tag then slotFreed i (routeMatched x pkt s)
  else
    recordFault
      { kind := .lateAnswer, source := none, locus := .downTag pkt.tag, reqKind := none, address := none } s

/-! ## Freeing every slot at once -/

/-- One slot's part of an M-port loss: answer, fault, free, for a WAITING slot (R108). -/
def loseSlot (s : State) (i : Fin 32) : State :=
  let x := s.slots[i]
  if x.state = .waiting then
    freeSlot i (recordFault (slotFault .targetLost .nowhere x) (answerOrHold x .targetLost s))
  else s

/-- One slot's part of a warm reset: ABORTED, no fault, no count lowered, no completion (R110). -/
def resetSlot (s : State) (i : Fin 32) : State :=
  let x := s.slots[i]
  if x.state = .waiting then
    let t := (answerOrHold x .aborted s).setSlot i x.freed
    t.setFreeList (t.freeList ++ [i])
  else s

end Sys2Proof.Machine
end

