-- ==== Sys2Proof/Machine/Arbiter.lean ====
section
/-! DEFINITION. The C-port's arbiter (R163): who holds a claim, whom the rotation grants, and the taking of
packets from the receive buffers (R39, R98). -/

namespace Sys2Proof.Machine

/-- The producer after this one in the order of the table of R163. -/
def Producer.next : Producer → Producer
  | .admission => .parkQueue
  | .parkQueue => .router
  | .router => .management
  | .management => .alertCtl
  | .alertCtl => .admission

/-- The five producers in rotation, beginning with one (R163). -/
def Producer.rotation (p : Producer) : List Producer :=
  [p, p.next, p.next.next, p.next.next.next, p.next.next.next.next]

/-- An ABORTED answer of a mode change waits for a place (R39, R87). -/
def State.takingHeld (s : State) : Bool := s.abortList.any AbortEntry.fromModeChange

/-- The item has a claim of its own: it is LEAVING, or PARKED with expiry due set (R80). -/
def ParkItem.claims (it : ParkItem) : Bool := it.isLeaving || it.expiryDue

/-- A reply is free to go when no answer of its own request waits (R147). -/
def Reply.freeToGo (r : Reply) : Bool := r.abortAhead == 0 && r.holdAhead == 0

/-- The head of the management reply list, when it is free to go (R147). -/
def State.replyToGo (s : State) : Option Reply := s.replies.head?.filter Reply.freeToGo

/-- The router's claim is for an answer of the M receive buffer: nothing else of the router's is ahead of it
(R97, R98). R97 takes no packet while a READ or WRITE slot is overdue; R103 lets the answer to such a slot be taken
first. The model follows R97, as its choice (log 29). -/
def State.answerToTake (s : State) : Option Packet :=
  if s.holdList.isEmpty && (firstOverdue s).isNone then s.mPort.rx.head? else none

/-- The producer holds a claim for a place of the C send queue (R163). -/
def State.claim (s : State) : Producer → Bool
  | .admission => !s.cPort.rx.isEmpty && !s.takingHeld
  | .parkQueue => !s.abortList.isEmpty || s.park.any ParkItem.claims
  | .router => !s.holdList.isEmpty || (firstOverdue s).isSome || s.answerToTake.isSome
  | .management => s.replyToGo.isSome
  | .alertCtl => s.alert.due

/-- The producer that the arbiter grants: the first in rotation that holds a claim, when a place is free or
the C-port is not UP (R163). -/
def State.granted (s : State) : Option Producer :=
  if s.cFree then s.nextProducer.rotation.find? s.claim else none

/-- The rotation after a grant: the next begins with the producer after the one granted (R163). -/
def grantTo (p : Producer) (s : State) : State := s.setNextProducer p.next

/-- The packet the admission unit takes, when it is granted: the oldest of the C receive buffer (R39). -/
def State.packetToTake (s : State) : Option Packet :=
  if s.granted = some .admission then s.cPort.rx.head? else none

/-- The oldest packet is taken from the C receive buffer under the admission unit's grant (R39, R161). -/
def takeFromC (s : State) : State := grantTo .admission (s.setCPort s.cPort.takeHead)

/-- The oldest packet is taken from the M receive buffer under the router's grant (R98, R161). -/
def takeFromM (s : State) : State := grantTo .router (s.setMPort s.mPort.takeHead)

/-- The park queue's own claim among its items: the LEAVING item or the item with expiry due nearest the head,
while the abort list is empty (R80). -/
def State.parkClaim (s : State) : Option ParkItem :=
  if s.abortList.isEmpty then s.park.find? ParkItem.claims else none

end Sys2Proof.Machine
end

