-- ==== Sys2Proof/Machine/Claims.lean ====
section
/-! DEFINITION. The claims of the park queue, the management unit and the alert controller for a C send place:
PARK_EXPIRY, LEAVING_ANSWER, ABORT_LIST_PLACE, MREPLY_PLACE, ALERT. -/

namespace Sys2Proof.Machine

/-- The park queue, granted, takes the claim of one of its items, when that item is LEAVING or not as asked
(R80). -/
def takeParkClaim (leaving : Bool) (act : ParkItem → State → State) (s : State) : State :=
  if s.granted = some .parkQueue then
    match s.parkClaim with
    | some it => if it.isLeaving = leaving then act it (grantTo .parkQueue s) else s
    | none => s
  else s

/-- The fault PARK_EXPIRED of an item (R83). -/
def parkExpiredFault (it : ParkItem) : FaultInfo :=
  requestFault .parkExpired (.page (pageOf it.req.address)) it.req

/-- The C send places that the claim of an item uses without a packet: a POST's claim uses its place all the same
(R83). -/
def ParkItem.placesUsed (it : ParkItem) : Nat := if it.req.kind = .post then 1 else 0

/-- The item leaves answered with a status and a fault, and its source's next item is re-admitted (R75). The place that
a POST's claim has used is not free for the answers of that cascade, and stands free when the event is over (R163;
log 35). -/
def itemLeaves (it : ParkItem) (status : AnswerStatus) (fault : FaultInfo) (s : State) : State :=
  behindTrigger it.req.source (removeItem it.serial (recordFault fault (answerError status it.req s))) it.placesUsed

/-- The expiry of an item whose mark is set: EXPIRED, or a POST dropped whose claim uses the place all the same;
PARK_EXPIRED; the BEHIND trigger (R83). -/
def expireItem (it : ParkItem) (s : State) : State := itemLeaves it .expired (parkExpiredFault it) s

/-- The decided answer of a LEAVING item is placed and its fault recorded; the BEHIND trigger (R80). -/
def leaveItem (it : ParkItem) (s : State) : State :=
  match it.state with
  | .leaving status fault => itemLeaves it status fault s
  | .parked _ => s

/-- PARK_EXPIRY: the park queue takes the claim of an item with expiry due (R80, R83). -/
def execParkExpiry (s : State) : Outcome := whenRunning s (takeParkClaim false expireItem)

/-- LEAVING_ANSWER: the park queue takes the claim of a LEAVING item (R80). -/
def execLeavingAnswer (s : State) : Outcome := whenRunning s (takeParkClaim true leaveItem)

/-- One entry of the abort list has been placed: no reply waits for it any longer (R147). -/
def Reply.abortPlaced (r : Reply) : Reply := { r with abortAhead := r.abortAhead - 1 }

/-- The park queue, granted, places the head of the abort list (R80, R87). -/
def placeAbortHead (s : State) : State :=
  if s.granted = some .parkQueue then
    match s.abortList with
    | [] => s
    | a :: rest =>
      let t := placeC (answerPacket s a.dest a.tag .aborted a.length []) (grantTo .parkQueue s)
      (t.setAbortList rest).setReplies (t.replies.map Reply.abortPlaced)
  else s

/-- ABORT_LIST_PLACE: the head ABORTED answer of the abort list is placed (R87). -/
def execAbortListPlace (s : State) : Outcome := whenRunning s placeAbortHead

/-- The management unit, granted, places the head of its reply list (R147). -/
def placeReplyHead (s : State) : State :=
  if s.granted = some .management then
    match s.replyToGo with
    | some r => (placeC r.packet (grantTo .management s)).setReplies s.replies.tail
    | none => s
  else s

/-- MREPLY_PLACE: the head of the management reply list is placed (R147). -/
def execMreplyPlace (s : State) : Outcome := whenRunning s placeReplyHead

/-- The alert controller, granted, places an ALERT and alert due is cleared (R142). -/
def placeAlert (s : State) : State :=
  if s.granted = some .alertCtl then
    let t := placeC (alertPacket s) (grantTo .alertCtl s)
    t.setAlert { t.alert with due := false }
  else s

/-- ALERT: a due ALERT is placed (R142). -/
def execAlert (s : State) : Outcome := whenRunning s placeAlert

end Sys2Proof.Machine
end

