-- ==== Sys2Proof/Machine/Data.lean ====
section
/-! DEFINITION. The data requests that the admission unit takes from the C receive buffer: READ, WRITE, POST. -/

namespace Sys2Proof.Machine

/-- The data request a packet carries (R39); the tag of a POST is ignored (R162). -/
def requestOf (k : ReqKind) (p : Packet) : Request :=
  { source := p.source, kind := k, tag := if k = .post then none else some p.tag, address := p.address,
    length := p.length, data := p.payload }

/-- The admission unit, granted, takes the oldest packet when it is of the kind, and runs the admission path of
the current mode (R39, R40); otherwise the event does not take place (log 2). -/
def takeRequest (pk : PacketKind) (k : ReqKind) (s : State) : State :=
  match s.packetToTake with
  | some p => if p.kind = pk then runFresh (requestOf k p) (takeFromC s) else s
  | none => s

/-- READ: the admission unit takes a READ (R39, R40). -/
def execRead (s : State) : Outcome := whenRunning s (takeRequest .read .read)

/-- WRITE: the admission unit takes a WRITE (R39, R40). -/
def execWrite (s : State) : Outcome := whenRunning s (takeRequest .write .write)

/-- POST: the admission unit takes a POST (R39, R58). -/
def execPost (s : State) : Outcome := whenRunning s (takeRequest .post .post)

end Sys2Proof.Machine
end

