-- ==== Sys2Proof/Machine/Link.lean ====
section
/-! DEFINITION. The link ports (Chapter 9): training, credits, receive checks, sending, and what a port that
reaches or leaves UP does to the other blocks. The commands of the link follow the operations. -/

namespace Sys2Proof.Machine

/-! ## Offers and own words -/

/-- A valid partner word: role UPPER or LOWER, payload code 64, 128 or 256, buffers 1 to 16 (R158). -/
def offerValid (o : LinkOffer) : Bool :=
  o.role != .invalid && (o.payloadCode == 64 || o.payloadCode == 128 || o.payloadCode == 256)
    && decide (1 ≤ o.buffers) && decide (o.buffers ≤ 16)

/-- The port's own role: LOWER for the C-port, UPPER for the M-port (R158). -/
def ownRole : Port → Role
  | .c => .lower
  | .m => .upper

/-- The word the port itself announces: its role, payload code 256, buffers 16 (R158). -/
def ownOffer (p : Port) : LinkOffer := { role := ownRole p, payloadCode := 256, buffers := 16 }

/-- What the port sends on its lanes in place of packets: its TRAIN word, with the agree mark set in AGREE
only; none in DOWN and in UP, where it sends CREDIT words, packets and IDLE words (R158, R160). -/
def trainWordSent (p : Port) (t : Training) : Option TrainWord :=
  match t with
  | .train | .mismatch => some { offer := ownOffer p, agree := false }
  | .agree => some { offer := ownOffer p, agree := true }
  | .down | .up => none

/-! ## Changes of the training state -/

/-- The count of three starts again (R158). -/
def PortState.restart (x : PortState) : PortState := { x with trainCount := 0, lastOffer := none }

/-- Anything but a TRAIN word, received while the port trains, starts the count of three again (R158). -/
def PortState.interrupted (x : PortState) : PortState :=
  match x.training with
  | .train | .agree => x.restart
  | .down | .up | .mismatch => x

/-- The port enters a training state other than UP and AGREE: no agreed word, no count (R157, R158; log 9). -/
def PortState.enter (x : PortState) (t : Training) : PortState :=
  { x with training := t, trainCount := 0, lastOffer := none, agreed := none, negotiated := none,
           lossTicks := if t = .down then none else x.lossTicks }

/-- The port's part of leaving UP (R159): WENT_DOWN is latched, the credits become 0, the send queue is
emptied, and the receive buffer is kept. -/
def PortState.leaveUp (x : PortState) (t : Training) : PortState :=
  { x.enter t with credits := 0, owed := 0, tx := [], indications := { x.indications with wentDown := true } }

/-- The port's part of entering UP (R159): negotiated payload, credits, an empty receive buffer, CAME_UP, and
its own TRAIN word with the agree mark three more times. -/
def PortState.enterUp (p : Port) (x : PortState) (agreed : LinkOffer) : PortState :=
  let w : Sent := .train { offer := ownOffer p, agree := true }
  { x with training := .up, trainCount := 0, lastOffer := none, agreed := some agreed,
           negotiated := some (min 256 agreed.payloadCode), credits := agreed.buffers, owed := 0, rx := [],
           indications := { x.indications with cameUp := true }, sent := x.sent ++ [w, w, w] }

/-- A partner TRAIN word received in TRAIN (R158; log 10). -/
def PortState.trainInTrain (p : Port) (x : PortState) (w : TrainWord) : PortState :=
  if !offerValid w.offer then x.restart
  else if x.lastOffer = some w.offer then
    if x.trainCount + 1 < 3 then { x with trainCount := x.trainCount + 1 }
    else if w.offer.role = ownRole p then x.enter .mismatch
    else { x.restart with training := .agree, agreed := some w.offer }
  else { x with trainCount := 1, lastOffer := some w.offer }

/-! ## Losses and arrivals of a link, with their effects on the other blocks -/

/-- The C-port leaves UP (R159, R165): the C send queue, the park items, the abort list, the hold list and the
reply list are discarded, the decided faults of LEAVING items are recorded (R89), and a due ALERT becomes
pending again (R140). No rule gives the order of those faults; that they are recorded in the order of the park queue is
the model's choice (log 33). The emptying of a hold list gives a SLOT trigger (R106; log 24). -/
def cPortLeavesUp (t : Training) (s : State) : State :=
  let a := s.setCPort (s.cPort.leaveUp t)
  let b := (((a.setPark []).setAbortList []).setReplies []).setAlert a.alert.withdraw
  let c := s.park.foldl recordLeavingFault b
  if s.holdList.isEmpty then c else trigger (· == .slot) (c.setHoldList [])

/-- The fault of a posted write that an M-port loss discards (R164). -/
def postLostFault (pkt : Packet) : FaultInfo :=
  { kind := .targetLost, source := some pkt.source, locus := .nowhere, reqKind := some .post, address := none }

/-- The M-port leaves UP (R159, R108, R164): every WAITING slot is freed in ascending order with TARGET_LOST,
then each posted write of the M send queue is recorded, and one SLOT trigger is taken, which finds the M-port not UP. -/
def mPortLeavesUp (t : Training) (s : State) : State :=
  let posts := s.mPort.tx.filter fun pkt => pkt.kind == .post
  let a := (List.finRange 32).foldl loseSlot (s.setMPort (s.mPort.leaveUp t))
  trigger (· == .slot) (posts.foldl (fun s pkt => recordFault (postLostFault pkt) s) a)

/-- A port leaves UP for TRAIN or DOWN (R159). -/
def portLeavesUp (p : Port) (t : Training) (s : State) : State :=
  match p with
  | .c => cPortLeavesUp t s
  | .m => mPortLeavesUp t s

/-- A port reaches UP (R159); the C-port tells the alert controller (R165, R140). -/
def portReachesUp (p : Port) (agreed : LinkOffer) (s : State) : State :=
  let a := s.setPort p ((s.port p).enterUp p agreed)
  match p with
  | .c => a.setAlert (a.alert.release true)
  | .m => a

/-- A partner TRAIN word is received (R158, R159). -/
def receiveTrainWord (p : Port) (w : TrainWord) (s : State) : State :=
  let x := s.port p
  match x.training with
  | .down | .mismatch => s
  | .train => s.setPort p (x.trainInTrain p w)
  | .agree =>
    if x.agreed ≠ some w.offer then s.setPort p (x.enter .train)
    else if !w.agree then s.setPort p x.restart
    else if x.trainCount + 1 < 3 then s.setPort p { x with trainCount := x.trainCount + 1 }
    else portReachesUp p w.offer s
  | .up => if w.agree && x.agreed == some w.offer then s else portLeavesUp p .train s

/-- How many ticks a loss of word alignment must last (R158). -/
def lossLimit : Nat := 2000

/-- A loss of word alignment that has lasted 2000 ticks sends the port to DOWN (R158, R159). -/
def expireLoss (p : Port) (s : State) : State :=
  let x := s.port p
  if x.lossTicks = some lossLimit then
    if x.isUp then portLeavesUp p .down s else s.setPort p (x.enter .down)
  else s

/-! ## Credits and receive checks -/

/-- The port latches CREDIT_ERROR. -/
def PortState.creditError (x : PortState) : PortState :=
  { x with indications := { x.indications with creditError := true } }

/-- A CREDIT word received in UP (R160). -/
def PortState.addCredits (x : PortState) (count : Nat) : PortState :=
  let limit := (x.agreed.map LinkOffer.buffers).getD 0
  if count = 0 ∨ 16 < count then x.creditError
  else if limit < x.credits + count then { x.creditError with credits := limit }
  else { x with credits := x.credits + count }

/-- The indication of a failed receive check (R162). -/
inductive CheckFailure where
  | checkError
  | malformed
  | misplaced
  deriving DecidableEq, Repr, Inhabited

/-- The packet is a READ, WRITE or POST. -/
def kindIsRequest : PacketKind → Bool
  | .read | .write | .post => true
  | .answer | .mreq | .mreply | .alert | .unknown _ => false

/-- Order 2 of the table of R162. -/
def packetMalformed (p : Port) (negotiated : Nat) (pkt : Packet) : Bool :=
  (match pkt.kind with
   | .unknown _ => true
   | _ => false)
  || ((kindIsRequest pkt.kind || pkt.kind == .answer) && pkt.length == 0)
  || (kindIsRequest pkt.kind && decide (negotiated < pkt.length))
  || decide (negotiated < pkt.payload.length)
  || ((pkt.kind == .write || pkt.kind == .post) && pkt.payload.length != pkt.length)
  || (pkt.kind == .read && pkt.payload.length != 0)
  || (pkt.kind == .mreq && pkt.payload.isEmpty)
  || (kindIsRequest pkt.kind && decide (2 ^ 40 < pkt.address.toNat + pkt.length))
  || (p == .m && pkt.kind == .answer && decide (1 < pkt.status.toNat))

/-- Order 3 of the table of R162: the kind is not accepted at this port. -/
def kindMisplaced (p : Port) (k : PacketKind) : Bool :=
  match p with
  | .c => k == .answer || k == .mreply || k == .alert
  | .m => k != .answer

/-- The receive checks in order; the first that fails decides (R162). -/
def receiveCheck (p : Port) (negotiated : Nat) (bid : SourceId) (checkRight : Bool) (pkt : Packet) :
    Option CheckFailure :=
  if !checkRight then some .checkError
  else if packetMalformed p negotiated pkt then some .malformed
  else if kindMisplaced p pkt.kind then some .misplaced
  else if pkt.kind == .mreq && pkt.dest != bid then some .misplaced
  else none

/-- The indications with one more latched. -/
def Indications.latch (x : Indications) : CheckFailure → Indications
  | .checkError => { x with checkError := true }
  | .malformed => { x with malformed := true }
  | .misplaced => { x with misplaced := true }

/-- A complete packet received in UP: it arrives, or it is discarded with its indication and a credit owed, or
it came without a credit (R161, R162). -/
def PortState.receive (p : Port) (x : PortState) (bid : SourceId) (checkRight : Bool) (pkt : Packet) : PortState :=
  if capacity ≤ x.rx.length then x.creditError
  else
    match receiveCheck p (x.negotiated.getD 0) bid checkRight pkt with
    | none => { x with rx := x.rx ++ [pkt] }
    | some f => { x with indications := x.indications.latch f }.oweCredit

/-- The head packet of the send queue is sent, behind a CREDIT word for the credits owed (R160, R161). -/
def PortState.sendHead (x : PortState) : PortState :=
  match x.tx with
  | [] => x
  | pkt :: rest =>
    let y := x.returnCredits
    { y with tx := rest, credits := y.credits - 1, sent := y.sent ++ [.packet pkt] }

/-- The port can send a packet: it is UP, has send credits, and its send queue holds one (R160). -/
def PortState.canSend (x : PortState) : Bool := x.isUp && decide (0 < x.credits) && !x.tx.isEmpty

/-! ## The commands of the link -/

/-- WORD_ALIGNMENT_ACQUIRED: a DOWN port enters TRAIN (R158). -/
def execWordAlignmentAcquired (p : Port) (s : State) : Outcome :=
  whenRunning s fun s =>
    if (s.port p).training = .down then s.setPort p ((s.port p).enter .train) else s

/-- ALIGNMENT_LOST: the training state is kept and the 2000-tick count begins (R158; log 22). -/
def execAlignmentLost (p : Port) (s : State) : Outcome :=
  whenRunning s fun s =>
    let x := s.port p
    if x.training ≠ .down ∧ x.lossTicks = none then s.setPort p { x with lossTicks := some 0 } else s

/-- ALIGNMENT_REGAINED: a loss shorter than 2000 ticks ends and the state is as it was (R158). -/
def execAlignmentRegained (p : Port) (s : State) : Outcome :=
  whenRunning s fun s =>
    let x := s.port p
    if x.lossTicks.isSome && x.lossTicks != some lossLimit then s.setPort p { x with lossTicks := none } else s

/-- ALIGNMENT_LOSS_EXPIRY: a loss that has lasted 2000 ticks sends the port to DOWN (R158). -/
def execAlignmentLossExpiry (p : Port) (s : State) : Outcome := whenRunning s (expireLoss p)

/-- TRAIN_WORD: a partner TRAIN word is received (R158, R159). -/
def execTrainWord (p : Port) (w : TrainWord) (s : State) : Outcome := whenRunning s (receiveTrainWord p w)

/-- CREDIT_WORD: in UP its count is added to the send credits; elsewhere it is ignored, but for the count of
three it starts again (R160, R158). -/
def execCreditWord (p : Port) (count : Nat) (s : State) : Outcome :=
  whenRunning s fun s =>
    let x := s.port p
    s.setPort p (if x.isUp then x.addCredits count else x.interrupted)

/-- IDLE_WORD: an IDLE word or a word that is none of the four; it changes nothing in UP (R158, R160). -/
def execIdleWord (p : Port) (s : State) : Outcome :=
  whenRunning s fun s => s.setPort p (s.port p).interrupted

/-- SEND_CREDIT: a port in UP returns every credit owed (R161). -/
def execSendCredit (p : Port) (s : State) : Outcome :=
  whenRunning s fun s => if (s.port p).isUp then s.setPort p (s.port p).returnCredits else s

/-- SEND_PACKET: the head packet is sent and its place frees; a place freed in the M send queue gives the SLOT
trigger (R160, R164, R78). Whether the trigger is taken within the event, or after further sends, is the model's
input (log 30). -/
def execSendPacket (p : Port) (s : State) : Outcome :=
  whenRunning s fun s =>
    if (s.port p).canSend then
      match p with
      | .c => s.setCPort s.cPort.sendHead
      | .m => slotTrigger (s.setMPort s.mPort.sendHead)
    else s

/-- PACKET_RECEIVED: in UP the packet goes through the receive checks; elsewhere it is discarded (R158, R161,
R162; log 12). -/
def execPacketReceived (p : Port) (checkRight : Bool) (pkt : Packet) (s : State) : Outcome :=
  whenRunning s fun s =>
    let x := s.port p
    s.setPort p (if x.isUp then x.receive p s.straps.bid checkRight pkt else x.interrupted)

end Sys2Proof.Machine
end

