-- ==== Sys2Proof/Machine/Meters.lean ====
section
/-! DEFINITION. Meters (Chapter 6) and the time-driven events: TICK, METER_ROLLOVER, EXPIRY_DUE,
SLOT_OVERDUE. -/

namespace Sys2Proof.Machine

/-- The meter after a rollover or a RESTART: the counts are 0 and the next values are current (R115, R123). -/
def Meter.freshPeriod (x : Meter) : Meter :=
  { x with
    periodCount := 0, used := 0, rolloverDue := false, next := none,
    period := (x.next.map NextValues.period).getD x.period,
    budget := (x.next.map NextValues.budget).getD x.budget }

/-- The meter counts one tick; the tick that would bring the count to the period makes the rollover due
(R113; log 5). -/
def Meter.countTick (x : Meter) : Meter :=
  match x.state with
  | .stopped => x
  | .running =>
    if x.periodCount + 1 < x.period then { x with periodCount := x.periodCount + 1 }
    else { x with rolloverDue := true }

/-- The meter rolls over and gives the METER trigger (R115). -/
def rollOver (m : Fin 4) (s : State) : State := meterTrigger m (s.setMeter m (s.meters[m]).freshPeriod)

/-- The rollover of a RUNNING meter whose period the tick has reached (R113, R115). -/
def rollOverIfDue (m : Fin 4) (s : State) : State :=
  if (s.meters[m]).state = .running ∧ (s.meters[m]).rolloverDue = true then rollOver m s else s

/-- METER_ROLLOVER: a RUNNING meter whose period count reaches its period rolls over (R113, R115). -/
def execMeterRollover (m : Fin 4) (s : State) : Outcome := whenRunning s (rollOverIfDue m)

/-- EXPIRY_DUE: the expiry due mark of every PARKED item whose age has reached the park limit is set (R82). -/
def execExpiryDue (s : State) : Outcome := whenRunning s markExpired

/-- SLOT_OVERDUE: the timebase has reached the deadline tick of a WAITING slot (R97). -/
def execSlotOverdue (i : Fin 32) (s : State) : Outcome := whenRunning s (slotBecomesOverdue i)

/-- What has fallen due on the present tick and has not been taken is taken: alignment losses of 2000 ticks,
rollovers, expiry marks, overdue slots, and the SLOT triggers that wait (log 5, log 30). -/
def settleDue (s : State) : State :=
  let a := expireLoss .m (expireLoss .c s)
  let b := (List.finRange 4).foldl (fun s m => rollOverIfDue m s) a
  takeDueTriggers ((List.finRange 32).foldl (fun s i => slotBecomesOverdue i s) (markExpired b))

/-- A loss of word alignment lasts one tick more, up to the 2000 that expire it (R158). -/
def PortState.countLoss (x : PortState) : PortState :=
  { x with lossTicks := x.lossTicks.map fun n => if n < lossLimit then n + 1 else n }

/-- An overdue slot has been overdue for one tick more (R97; log 15). -/
def Slot.countTick (x : Slot) : Slot := if x.overdue then { x with overdueFor := x.overdueFor + 1 } else x

/-- The timebase advances by one, wrapping; each RUNNING meter, each overdue slot and each alignment loss counts the
tick (R151, R113, R97, R158). -/
def advanceTime (s : State) : State :=
  let a := ((s.setTick (s.tick + 1)).setMeters (mapTable Meter.countTick s.meters)).setSlots
    (mapTable Slot.countTick s.slots)
  (a.setCPort a.cPort.countLoss).setMPort a.mPort.countLoss

/-- TICK: one microsecond passes (R151). Nothing that fell due on the tick before is passed over (log 5). -/
def execTick (s : State) : Outcome := whenRunning s fun s => advanceTime (settleDue s)

end Sys2Proof.Machine
end

