-- ==== Sys2Proof/Machine/Mgmt.lean ====
section
/-! DEFINITION. The management unit (Chapter 8): which row of the table takes an MREQ, permission, the checks
common to every request, replies. -/

namespace Sys2Proof.Machine

/-- The management rows of spec/opcode_table.json. -/
inductive MgmtRow where
  | identify
  | getSetting
  | setSetting
  | setMeterSetting
  | getDomain
  | setDomain
  | loadWindow
  | widenWindow
  | readWindow
  | retireEntry
  | retireRange
  | retireDomain
  | retireAll
  | setMode
  | meterRun
  | meterStop
  | meterRestart
  | readFault
  | releaseFault
  | clearOverflow
  | faultSummary
  | portStatus
  | resetWarm
  | badRequest
  deriving DecidableEq, Repr, Inhabited

/-- The row that takes an MREQ, by its request code (R156) and, where several rows share a code, by the item,
scope or action byte. A byte that is absent or names nothing goes to SET_SETTING, RETIRE_ENTRY and
METER_RUN, which refuse it (log 8). -/
def mreqRow (p : List Byte) : MgmtRow :=
  match p.head? with
  | none => .badRequest
  | some c =>
    match c.toNat with
    | 0x01 => .identify
    | 0x02 => .getSetting
    | 0x03 => if 4 ≤ byteAt p 1 ∧ byteAt p 1 ≤ 7 then .setMeterSetting else .setSetting
    | 0x04 => .getDomain
    | 0x05 => .setDomain
    | 0x06 => .loadWindow
    | 0x07 => .widenWindow
    | 0x08 => .readWindow
    | 0x09 =>
      match byteAt p 1 with
      | 1 => .retireRange
      | 2 => .retireDomain
      | 3 => .retireAll
      | _ => .retireEntry
    | 0x0A => .setMode
    | 0x0B =>
      match byteAt p 2 with
      | 1 => .meterStop
      | 2 => .meterRestart
      | _ => .meterRun
    | 0x0C => .readFault
    | 0x0D => .releaseFault
    | 0x0E => .clearOverflow
    | 0x0F => .faultSummary
    | 0x10 => .portStatus
    | 0x11 => .resetWarm
    | _ => .badRequest

/-- The source may manage the bridge: its id is MSRC, or its record is valid with may-manage set (R33). -/
def permitted (s : State) (src : SourceId) : Bool :=
  src == s.straps.msrc
    || ((s.domains[sourceIndex src]).valid && (s.domains[sourceIndex src]).mayManage)

/-- The fault MGMT_DENIED of a source (R33). -/
def mgmtDeniedFault (src : SourceId) : FaultInfo :=
  { kind := .mgmtDenied, source := some src, locus := .nowhere, reqKind := none, address := none }

/-- The MREPLY to an MREQ (R146): to its source, under its tag, with its request code. -/
def replyTo (p : Packet) (status : MgmtStatus) (results : List Byte) (s : State) : Packet :=
  mreplyPacket s p.source p.tag (p.payload.headD 0) status results

/-- A reply that does not wait is placed in the place that allowed the taking, or discarded when the C-port is
not UP (R146). -/
def reply (p : Packet) (status : MgmtStatus) (results : List Byte) (s : State) : State :=
  placeC (replyTo p status results s) s

/-- The check of the operand length: another payload length is answered BAD_REQUEST (R144 check 3). -/
def withLength (n : Nat) (p : Packet) (s : State) (f : State → State) : State :=
  if p.payload.length = n then f s else reply p .badRequest [] s

/-- The admission unit, granted, takes the oldest packet when it is an MREQ of the row, and the management unit
executes it (R39, R143): permission first (R144 check 1), then the row's own `body`; otherwise the event does
not take place (log 2). -/
def takeMreq (row : MgmtRow) (body : Packet → State → State) (s : State) : State :=
  match s.packetToTake with
  | some p =>
    if p.kind = .mreq ∧ mreqRow p.payload = row then
      let t := takeFromC s
      if permitted t p.source then body p t
      else recordFault (mgmtDeniedFault p.source) (reply p .denied [] t)
    else s
  | none => s

/-- A value below `n` as an index. -/
def indexOf (n v : Nat) : Option (Fin n) := if h : v < n then some ⟨v, h⟩ else none

/-- BAD_REQUEST: a request code that names no request (R144 check 2). -/
def execBadRequest (s : State) : Outcome :=
  whenRunning s (takeMreq .badRequest fun p s => reply p .badRequest [] s)

/-- IDENTIFY: the identity record and the straps (R153). -/
def mgmtIdentify (p : Packet) (s : State) : State :=
  withLength 1 p s fun s => reply p .ok (identityBytes s.straps) s

/-- IDENTIFY (R153). -/
def execIdentify (s : State) : Outcome := whenRunning s (takeMreq .identify mgmtIdentify)

end Sys2Proof.Machine
end

