-- ==== Sys2Proof/Machine/MgmtLog.lean ====
section
/-! DEFINITION. The requests of the fault log and PORT_STATUS: READ_FAULT, RELEASE_FAULT, CLEAR_OVERFLOW,
FAULT_SUMMARY, PORT_STATUS. -/

namespace Sys2Proof.Machine

/-- READ_FAULT: the fields of one record as they stand (R133). -/
def mgmtReadFault (p : Packet) (s : State) : State :=
  withLength 2 p s fun s =>
    match indexOf 16 (byteAt p.payload 1) with
    | some i => reply p .ok (leBytes 1 i.val ++ (s.log.records[i]).bytes) s
    | none => reply p .badValue [] s

/-- READ_FAULT (R133). -/
def execReadFault (s : State) : Outcome := whenRunning s (takeMreq .readFault mgmtReadFault)

/-- The log with one record released: its pending field is cleared and the rest kept (R134). -/
def FaultLog.release (l : FaultLog) (i : Fin 16) : FaultLog :=
  { l with records := setAt l.records i { l.records[i] with pending := false } }

/-- RELEASE_FAULT: NOT_PENDING where the record is not; the reply carries the summary after the release, and a
count of 0 with the flag clear services the alert (R134, R141). -/
def mgmtReleaseFault (p : Packet) (s : State) : State :=
  withLength 2 p s fun s =>
    match indexOf 16 (byteAt p.payload 1) with
    | some i =>
      if (s.log.records[i]).pending then
        let t := serviceAlert (s.setLog (s.log.release i))
        reply p .ok t.log.summary t
      else reply p .notPending [] s
    | none => reply p .badValue [] s

/-- RELEASE_FAULT (R134). -/
def execReleaseFault (s : State) : Outcome := whenRunning s (takeMreq .releaseFault mgmtReleaseFault)

/-- CLEAR_OVERFLOW: the flag is cleared, a count of 0 then services the alert, and the reply carries the summary
after the clearing (R135, R141). -/
def mgmtClearOverflow (p : Packet) (s : State) : State :=
  withLength 1 p s fun s =>
    let t := if s.log.overflow then serviceAlert (s.setLog { s.log with overflow := false }) else s
    reply p .ok t.log.summary t

/-- CLEAR_OVERFLOW (R135). -/
def execClearOverflow (s : State) : Outcome := whenRunning s (takeMreq .clearOverflow mgmtClearOverflow)

/-- FAULT_SUMMARY: the summary as it stands (R136). -/
def mgmtFaultSummary (p : Packet) (s : State) : State := withLength 1 p s fun s => reply p .ok s.log.summary s

/-- FAULT_SUMMARY (R136). -/
def execFaultSummary (s : State) : Outcome := whenRunning s (takeMreq .faultSummary mgmtFaultSummary)

/-- The port a PORT_STATUS names: 0 the C-port, 1 the M-port (R168). -/
def portOfCode : Nat → Option Port
  | 0 => some .c
  | 1 => some .m
  | _ => none

/-- The indications with none latched. -/
def Indications.clear : Indications :=
  { wentDown := false, cameUp := false, checkError := false, malformed := false, misplaced := false,
    creditError := false }

/-- PORT_STATUS: the port's state as it stands, and the clearing of every indication reported (R168). The fills of
the C-port are those after the PORT_STATUS packet has left the receive buffer and before its reply is placed, as the
model's choice (log 31). -/
def mgmtPortStatus (p : Packet) (s : State) : State :=
  withLength 2 p s fun s =>
    match portOfCode (byteAt p.payload 1) with
    | some q =>
      let x := s.port q
      reply p .ok (leBytes 1 (byteAt p.payload 1) ++ x.bytes) (s.setPort q { x with indications := Indications.clear })
    | none => reply p .badValue [] s

/-- PORT_STATUS (R168). -/
def execPortStatus (s : State) : Outcome := whenRunning s (takeMreq .portStatus mgmtPortStatus)

end Sys2Proof.Machine
end

