-- ==== Sys2Proof/Machine/MgmtTables.lean ====
section
/-! DEFINITION. The requests of the domain table and the window table: GET_DOMAIN, SET_DOMAIN, LOAD_WINDOW,
WIDEN_WINDOW, READ_WINDOW, and the RETIRE of each scope. -/

namespace Sys2Proof.Machine

/-! ## The domain table -/

/-- GET_DOMAIN: the record of a source as it stands (R36). -/
def mgmtGetDomain (p : Packet) (s : State) : State :=
  withLength 2 p s fun s =>
    match indexOf 64 (byteAt p.payload 1) with
    | some i => reply p .ok (leBytes 1 i.val ++ (s.domains[i]).bytes) s
    | none => reply p .badValue [] s

/-- GET_DOMAIN (R36). -/
def execGetDomain (s : State) : Outcome := whenRunning s (takeMreq .getDomain mgmtGetDomain)

/-- The domain record in the operands of SET_DOMAIN, where every field names a value (R34). -/
def domainRecordOf (p : List Byte) : Option DomainRecord :=
  match flagOfCode (byteAt p 2), indexOf 16 (byteAt p 3), classOfCode (byteAt p 4), policyOfCode (byteAt p 5),
    flagOfCode (byteAt p 6) with
  | some valid, some domain, some cls, some policy, some mayManage =>
    some { valid := valid, domain := domain, sourceClass := cls, missPolicy := policy, mayManage := mayManage }
  | _, _, _, _, _ => none

/-- SET_DOMAIN: the whole record is replaced, and the reply carries the record as it stood before (R34). -/
def mgmtSetDomain (p : Packet) (s : State) : State :=
  withLength 7 p s fun s =>
    match indexOf 64 (byteAt p.payload 1), domainRecordOf p.payload with
    | some i, some r =>
      reply p .ok (leBytes 1 i.val ++ (s.domains[i]).bytes) (s.setDomains (setAt s.domains i r))
    | _, _ => reply p .badValue [] s

/-- SET_DOMAIN (R34). -/
def execSetDomain (s : State) : Outcome := whenRunning s (takeMreq .setDomain mgmtSetDomain)

/-! ## Loading, widening, reading -/

/-- The ranges of R12 for a window to be loaded. -/
def WindowEntry.valuesOk (e : WindowEntry) : Bool :=
  decide (12 ≤ e.sizeExp) && decide (e.sizeExp ≤ 36)
    && e.cardBase.toNat % 2 ^ e.sizeExp == 0 && e.memBase.toNat % 2 ^ e.sizeExp == 0
    && decide (e.cardBase.toNat + 2 ^ e.sizeExp ≤ 2 ^ 40) && decide (e.memBase.toNat + 2 ^ e.sizeExp ≤ 2 ^ 40)

/-- The ACTIVE entry that the operands of LOAD_WINDOW describe, where R12 refuses none of them. The size exponent
is judged before it is used. -/
def windowOf (p : List Byte) : Option WindowEntry :=
  match windowDomainOfCode (byteAt p 2), rightsOfCode (byteAt p 14), deliveryOfCode (byteAt p 15),
    bindingOfCode (byteAt p 16) with
  | some domain, some rights, some delivery, some meter =>
    if byteAt p 8 ≤ 36 then
      let e : WindowEntry :=
        { state := .active, domain := domain, cardBase := BitVec.ofNat 40 (fieldAt p 3 5), sizeExp := byteAt p 8,
          memBase := BitVec.ofNat 40 (fieldAt p 9 5), rights := rights, delivery := delivery, meter := meter,
          inFlight := 0, admissions := 0 }
      if e.valuesOk then some e else none
    else none
  | _, _, _, _ => none

/-- The two windows overlap: some card address lies in both (R13). -/
def WindowEntry.overlaps (a b : WindowEntry) : Bool :=
  decide (a.cardBase.toNat < b.limit) && decide (b.cardBase.toNat < a.limit)

/-- The two entries' domains meet: either is SHARED, or they are the same (R13). -/
def WindowEntry.sharesDomain (a b : WindowEntry) : Bool :=
  decide (a.domain = .shared) || decide (b.domain = .shared) || decide (a.domain = b.domain)

/-- An ACTIVE entry conflicts with a new window (R13). -/
def WindowEntry.conflicts (new e : WindowEntry) : Bool :=
  decide (e.state = .active) && new.overlaps e && new.sharesDomain e

/-- LOAD_WINDOW: the values (R12), then ENTRY_BUSY, then OVERLAP with the lowest conflicting index (R13, R15);
otherwise the entry becomes ACTIVE, OK is queued, and the MISS trigger is given (R14). -/
def mgmtLoadWindow (p : Packet) (s : State) : State :=
  withLength 17 p s fun s =>
    match indexOf 64 (byteAt p.payload 1), windowOf p.payload with
    | some i, some e =>
      if (s.windows[i]).state ≠ .free then
        reply p .entryBusy (leBytes 1 i.val ++ leBytes 1 (s.windows[i]).state.code) s
      else
        match findIndex (WindowEntry.conflicts e) s.windows with
        | some j => reply p .overlap (leBytes 1 i.val ++ leBytes 1 j.val) s
        | none => missTrigger (reply p .ok (leBytes 1 i.val ++ absentBytes 1) (s.setWindow i e))
    | _, _ => reply p .badValue [] s

/-- LOAD_WINDOW (R14). -/
def execLoadWindow (s : State) : Outcome := whenRunning s (takeMreq .loadWindow mgmtLoadWindow)

/-- The new set of rights holds every right of the old one (R16). -/
def Rights.covers (new old : Rights) : Bool :=
  (new.read || !old.read) && (new.write || !old.write) && (new.userOpen || !old.userOpen)

/-- WIDEN_WINDOW: index and rights, then NOT_ACTIVE, then NARROWING; otherwise the rights become the new set
(R16). R16 gives the BAD_VALUE of a rights bit above bit 2 (R156) no place in its order: that it comes with the index's,
before NOT_ACTIVE, is the model's choice (log 34). -/
def mgmtWidenWindow (p : Packet) (s : State) : State :=
  withLength 3 p s fun s =>
    match indexOf 64 (byteAt p.payload 1), rightsOfCode (byteAt p.payload 2) with
    | some i, some r =>
      if (s.windows[i]).state ≠ .active then reply p .notActive [] s
      else if !r.covers (s.windows[i]).rights then reply p .narrowing [] s
      else reply p .ok (leBytes 1 i.val ++ leBytes 1 r.code) (s.setWindow i { s.windows[i] with rights := r })
    | _, _ => reply p .badValue [] s

/-- WIDEN_WINDOW (R16). -/
def execWidenWindow (s : State) : Outcome := whenRunning s (takeMreq .widenWindow mgmtWidenWindow)

/-- READ_WINDOW: every field of the entry as it stands (R18). -/
def mgmtReadWindow (p : Packet) (s : State) : State :=
  withLength 2 p s fun s =>
    match indexOf 64 (byteAt p.payload 1) with
    | some i => reply p .ok (leBytes 1 i.val ++ (s.windows[i]).bytes) s
    | none => reply p .badValue [] s

/-- READ_WINDOW (R18). -/
def execReadWindow (s : State) : Outcome := whenRunning s (takeMreq .readWindow mgmtReadWindow)

/-! ## RETIRE -/

/-- The ACTIVE entries that satisfy `p`, in ascending index order (R20). -/
def activeEntries (s : State) (p : WindowEntry → Bool) : List (Fin 64) :=
  (List.finRange 64).filter fun i => (s.windows[i]).state == .active && p s.windows[i]

/-- A selected entry becomes FREE when nothing is in flight through it, else DRAINING (R21). -/
def WindowEntry.retired (e : WindowEntry) : WindowEntry :=
  { e with state := if e.inFlight = 0 then .free else .draining }

/-- One selected entry is retired (R21). -/
def retireEntryAt (s : State) (i : Fin 64) : State := s.setWindow i (s.windows[i]).retired

/-- Retires the selected entries (R21): OK at once when none is left DRAINING, else a long operation with the
count and the flag of R22. -/
def retireSelected (selected : List (Fin 64)) (widened : Bool) (p : Packet) (s : State) : State :=
  let t := selected.foldl retireEntryAt s
  if selected.any fun i => (s.windows[i]).inFlight != 0 then
    t.setLongOp (.retire p.source p.tag selected.length widened)
  else reply p .ok (retireResults selected.length widened) t

/-- What every RETIRE checks first: the payload length, then BUSY while a long operation is in progress
(R144, R19). -/
def retireChecked (p : Packet) (s : State) (f : State → State) : State :=
  withLength 15 p s fun s => if s.longOp = .idle then f s else reply p .busy [] s

/-- RETIRE ENTRY: the entry at the index; NOT_ACTIVE, with count 0 and the flag clear, when it is not ACTIVE
(R19, R20; log 23). A scope code that names nothing is refused here (log 8). -/
def mgmtRetireEntry (p : Packet) (s : State) : State :=
  retireChecked p s fun s =>
    match indexOf 64 (byteAt p.payload 2) with
    | some i =>
      if byteAt p.payload 1 ≠ 0 then reply p .badValue [] s
      else if (s.windows[i]).state = .active then retireSelected [i] false p s
      else reply p .notActive (retireResults 0 false) s
    | none => reply p .badValue [] s

/-- RETIRE_ENTRY (R20). -/
def execRetireEntry (s : State) : Outcome := whenRunning s (takeMreq .retireEntry mgmtRetireEntry)

/-- The entry is selected by a RANGE: its domain field equals the given value and its window overlaps the range
(R20). -/
def WindowEntry.inRange (d : WindowDomain) (base length : Nat) (e : WindowEntry) : Bool :=
  decide (e.domain = d) && decide (e.cardBase.toNat < base + length) && decide (base < e.limit)

/-- The entry's window extends beyond the range (R22). -/
def WindowEntry.beyond (base length : Nat) (e : WindowEntry) : Bool :=
  decide (e.cardBase.toNat < base) || decide (base + length < e.limit)

/-- RETIRE RANGE: length at least 1 and a range that ends at or below 2^40 (R19); the widened flag (R22). -/
def mgmtRetireRange (p : Packet) (s : State) : State :=
  retireChecked p s fun s =>
    let base := fieldAt p.payload 4 5
    let length := fieldAt p.payload 9 6
    match windowDomainOfCode (byteAt p.payload 3) with
    | some d =>
      if length = 0 ∨ 2 ^ 40 < base + length then reply p .badValue [] s
      else
        let selected := activeEntries s (WindowEntry.inRange d base length)
        retireSelected selected (selected.any fun i => (s.windows[i]).beyond base length) p s
    | none => reply p .badValue [] s

/-- RETIRE_RANGE (R20). -/
def execRetireRange (s : State) : Outcome := whenRunning s (takeMreq .retireRange mgmtRetireRange)

/-- RETIRE DOMAIN: every ACTIVE entry of domain d; SHARED entries are not selected (R20). -/
def mgmtRetireDomain (p : Packet) (s : State) : State :=
  retireChecked p s fun s =>
    match indexOf 16 (byteAt p.payload 3) with
    | some d => retireSelected (activeEntries s fun e => decide (e.domain = .numbered d)) false p s
    | none => reply p .badValue [] s

/-- RETIRE_DOMAIN (R20). -/
def execRetireDomain (s : State) : Outcome := whenRunning s (takeMreq .retireDomain mgmtRetireDomain)

/-- RETIRE ALL: every ACTIVE entry (R20). -/
def mgmtRetireAll (p : Packet) (s : State) : State :=
  retireChecked p s fun s => retireSelected (activeEntries s fun _ => true) false p s

/-- RETIRE_ALL (R20). -/
def execRetireAll (s : State) : Outcome := whenRunning s (takeMreq .retireAll mgmtRetireAll)

end Sys2Proof.Machine
end

