-- ==== Sys2Proof/Machine/MgmtMode.lean ====
section
/-! DEFINITION. SET_MODE and RESET(WARM). -/

namespace Sys2Proof.Machine

/-! ## SET_MODE -/

/-- A WAITING slot receives its drain mark (R64). -/
def Slot.marked (x : Slot) : Slot := if x.state = .waiting then { x with drainMark := true } else x

/-- The number of WAITING slots (R64). -/
def waitingCount (s : State) : Nat := countTable (fun x : Slot => x.state == .waiting) s.slots

/-- How many entries at the head of the abort list a reply waits for, when its request added some (R147). -/
def waitsFor (before after : Nat) : Nat := if before < after then after else 0

/-- The park queue holds an item whose ending is answered (R64). -/
def answersOwed (s : State) : Bool := s.park.any fun it => it.req.kind != .post

/-- A SET_MODE to another mode: the mode, the park queue, the drain marks, and the reply or the long operation
(R64, R65; log 14). -/
def changeMode (m : Mode) (p : Packet) (s : State) : State :=
  let t := abortPark true (s.setModeField m)
  let u := t.setSlots (mapTable Slot.marked t.slots)
  let n := waitingCount t
  let results := setModeResults s.mode n
  if n ≠ 0 then u.setLongOp (.setMode p.source p.tag s.mode n)
  else if answersOwed s then
    listReply (replyTo p .ok results u) (waitsFor s.abortList.length u.abortList.length) 0 u
  else reply p .ok results u

/-- SET_MODE: BAD_VALUE, then BUSY, then a mode equal to the current one, then the change (R63). -/
def mgmtSetMode (p : Packet) (s : State) : State :=
  withLength 2 p s fun s =>
    match modeOfCode (byteAt p.payload 1) with
    | none => reply p .badValue [] s
    | some m =>
      if s.longOp ≠ .idle then reply p .busy [] s
      else if m = s.mode then reply p .ok (setModeResults s.mode 0) s
      else changeMode m p s

/-- SET_MODE (R63). -/
def execSetMode (s : State) : Outcome := whenRunning s (takeMreq .setMode mgmtSetMode)

/-! ## RESET(WARM) -/

/-- Step 2 of R154: every WAITING slot is freed in ascending order, the M send queue is emptied (its posted
writes are lost without a fault, R164), and the SLOT trigger finds the park queue empty. -/
def resetOutstanding (s : State) : State :=
  let t := (List.finRange 32).foldl resetSlot s
  trigger (· == .slot) (t.setMPort { t.mPort with tx := [] })

/-- A window entry across a warm reset (R26). -/
def WindowEntry.warmReset (e : WindowEntry) : WindowEntry :=
  { e with inFlight := 0, state := if e.state = .draining then .free else e.state }

/-- A meter across a warm reset (R125). -/
def Meter.warmReset (x : Meter) : Meter :=
  { x with periodCount := 0, used := 0, next := none, rolloverDue := false }

/-- Step 5 of R154: a long operation in progress is ended, and its reply, ABORTED with the values held, joins the
reply list and waits for the reset's own answers (R147). -/
def abortLongOp (abortAhead holdAhead : Nat) (s : State) : State :=
  match s.longOp with
  | .idle => s
  | .retire src tag retired widened =>
    listReply (mreplyPacket s src tag retireCode .aborted (retireResults retired widened)) abortAhead holdAhead
      (s.setLongOp .idle)
  | .setMode src tag oldMode marked =>
    listReply (mreplyPacket s src tag setModeCode .aborted (setModeResults oldMode marked)) abortAhead holdAhead
      (s.setLongOp .idle)

/-- The warm reset, in the order of R154; its reply carries the items ended and the slots freed (R155). -/
def warmReset (p : Packet) (s : State) : State :=
  let a := abortPark false s
  let b := resetOutstanding a
  let c := (b.setWindows (mapTable WindowEntry.warmReset b.windows)).setMeters (mapTable Meter.warmReset b.meters)
  let abortAhead := waitsFor s.abortList.length c.abortList.length
  let holdAhead := waitsFor s.holdList.length c.holdList.length
  let d := abortLongOp abortAhead holdAhead c
  listReply (replyTo p .ok (leBytes 1 s.park.length ++ leBytes 1 (waitingCount s)) d) abortAhead holdAhead d

/-- RESET(WARM): another kind code is refused with BAD_VALUE (R154). -/
def mgmtResetWarm (p : Packet) (s : State) : State :=
  withLength 2 p s fun s => if byteAt p.payload 1 = 1 then warmReset p s else reply p .badValue [] s

/-- RESET_WARM (R154). -/
def execResetWarm (s : State) : Outcome := whenRunning s (takeMreq .resetWarm mgmtResetWarm)

end Sys2Proof.Machine
end

