-- ==== Sys2Proof/Machine/MgmtSettings.lean ====
section
/-! DEFINITION. The settings items and the meters' requests: GET_SETTING, SET_SETTING, SET_METER_SETTING,
METER_RUN, METER_STOP, METER_RESTART. -/

namespace Sys2Proof.Machine

/-- The item code that begins a setting's results (R156). -/
def itemByte (item : Nat) : List Byte := leBytes 1 item

/-- The value of a settings item by its code: 0 PARK_LIMIT, 1 ANSWER_TIMEOUT, 2 ALERT_MASK, 3 ALERT_DEST, 4 to 7
the meters, 8 TICK, 9 MODE (R150, R156). -/
def settingBytes (s : State) (item : Nat) : Option (List Byte) :=
  match item with
  | 0 => some (leBytes 2 s.parkLimit)
  | 1 => some (leBytes 2 s.answerTimeout)
  | 2 => some [flagByte s.alert.mask]
  | 3 => some (leBytes 1 s.alert.dest.toNat)
  | 4 => some (s.meters[0]).bytes
  | 5 => some (s.meters[1]).bytes
  | 6 => some (s.meters[2]).bytes
  | 7 => some (s.meters[3]).bytes
  | 8 => some (leBytes 4 s.tick.toNat)
  | 9 => some (leBytes 1 s.mode.code)
  | _ => none

/-- GET_SETTING: the item's value as it stands (R152, R120). -/
def mgmtGetSetting (p : Packet) (s : State) : State :=
  withLength 2 p s fun s =>
    match settingBytes s (byteAt p.payload 1) with
    | some value => reply p .ok (itemByte (byteAt p.payload 1) ++ value) s
    | none => reply p .badValue [] s

/-- GET_SETTING (R152). -/
def execGetSetting (s : State) : Outcome := whenRunning s (takeMreq .getSetting mgmtGetSetting)

/-- The state with a settings item written, where the value is in the item's range (R150, R152): a lower park
limit sets expiry marks at once (R85; a limit equal to the one held too, log 36), a new timeout is for later slots (R96), and the alert mask acts on a
pending or due alert (R140). -/
def writeSetting (s : State) (item v : Nat) : Option State :=
  match item with
  | 0 => if 1 ≤ v ∧ v ≤ 65535 then some (markExpired (s.setParkLimit v)) else none
  | 1 => if 16 ≤ v ∧ v ≤ 65535 then some (s.setAnswerTimeout v) else none
  | 2 => (flagOfCode v).map fun m => s.setAlert (s.alert.writeMask m s.cUp)
  | 3 => if v ≤ 63 then some (s.setAlert { s.alert with dest := BitVec.ofNat 6 v }) else none
  | _ => none

/-- The exact payload length of a SET_SETTING of items 0 to 3 (R156). -/
def settingLength (item : Nat) : Nat := if item ≤ 1 then 4 else 3

/-- SET_SETTING of an item other than a meter (R144 check 3, R152): no second byte is BAD_REQUEST, an item code
above 7 (TICK, MODE or no item) is BAD_VALUE, then the exact length, then the range. -/
def mgmtSetSetting (p : Packet) (s : State) : State :=
  if p.payload.length < 2 then reply p .badRequest [] s
  else
    let item := byteAt p.payload 1
    if 7 < item then reply p .badValue [] s
    else
      withLength (settingLength item) p s fun s =>
        match writeSetting s item (fieldAt p.payload 2 (settingLength item - 2)) with
        | some t => reply p .ok (itemByte item ++ (settingBytes t item).getD []) t
        | none => reply p .badValue [] s

/-- SET_SETTING (R152). -/
def execSetSetting (s : State) : Outcome := whenRunning s (takeMreq .setSetting mgmtSetSetting)

/-- A settings record of a meter, as SET_SETTING gives it (R118). -/
structure MeterSettings where
  basis : Basis
  period : Nat
  budget : Nat
  action : MeterAction
  buffered : Bool
  deriving DecidableEq, Repr

/-- The settings record in the operands, where every field names a value and the period is not 0 (R118). -/
def meterSettingsOf (p : List Byte) : Option MeterSettings :=
  match basisOfCode (byteAt p 2), meterActionOfCode (byteAt p 7), flagOfCode (byteAt p 8) with
  | some basis, some action, some buffered =>
    if fieldAt p 3 2 = 0 then none
    else some { basis := basis, period := fieldAt p 3 2, budget := fieldAt p 5 2, action := action,
                buffered := buffered }
  | _, _, _ => none

/-- The ticks of the present period, the tick whose rollover is due among them (log 5). -/
def Meter.ticksReached (x : Meter) : Nat := x.periodCount + x.rolloverDue.toNat

/-- The meter with the settings written, before any immediate rollover (R118, R119). R152 says that a value already held
changes nothing, and R119 that a buffered meter's given period and budget become the next values also where they equal
the current ones: that the model follows R119 here, and R118 where the record is unbuffered, is its choice (log 36). -/
def Meter.withSettings (x : Meter) (g : MeterSettings) : Meter :=
  if g.buffered then
    { x with basis := g.basis, action := g.action, buffered := true,
             next := some { period := g.period, budget := g.budget } }
  else
    { x with basis := g.basis, action := g.action, buffered := false, next := none, period := g.period,
             budget := g.budget }

/-- An unbuffered change leaves the period count at or above the new period (R118). -/
def Meter.rollsAtOnce (x : Meter) (g : MeterSettings) : Bool :=
  !g.buffered && decide (g.period ≤ x.ticksReached)

/-- The meter after a SET_SETTING, with the immediate rollover where there is one (R118, R119; log 5). -/
def Meter.afterSettings (x : Meter) (g : MeterSettings) : Meter :=
  let y := x.withSettings g
  if g.buffered then y
  else if x.rollsAtOnce g then y.freshPeriod
  else { y with periodCount := x.ticksReached, rolloverDue := false }

/-- SET_SETTING of METER_m: the reply carries the record after any immediate rollover and is queued before that
rollover's trigger (R118 to R120). -/
def mgmtSetMeterSetting (p : Packet) (s : State) : State :=
  withLength 9 p s fun s =>
    match indexOf 4 (byteAt p.payload 1 - 4), meterSettingsOf p.payload with
    | some m, some g =>
      let t := s.setMeter m ((s.meters[m]).afterSettings g)
      let u := reply p .ok (itemByte (byteAt p.payload 1) ++ (t.meters[m]).bytes) t
      if (s.meters[m]).rollsAtOnce g then meterTrigger m u else u
    | _, _ => reply p .badValue [] s

/-- SET_METER_SETTING (R118). -/
def execSetMeterSetting (s : State) : Outcome := whenRunning s (takeMreq .setMeterSetting mgmtSetMeterSetting)

/-- METER_CONTROL with its action code: the meter is changed, the reply with its record is queued, and then the
METER trigger is taken where the action gives one (R121). -/
def meterControl (action : Nat) (act : Meter → Meter) (gives : Bool) (p : Packet) (s : State) : State :=
  withLength 3 p s fun s =>
    match indexOf 4 (byteAt p.payload 1) with
    | some m =>
      if byteAt p.payload 2 = action then
        let t := s.setMeter m (act s.meters[m])
        let u := reply p .ok (t.meters[m]).bytes t
        if gives then meterTrigger m u else u
      else reply p .badValue [] s
    | none => reply p .badValue [] s

/-- RUN makes the meter RUNNING from the counts it was frozen with (R121). -/
def Meter.run (x : Meter) : Meter := { x with state := .running }

/-- STOP makes the meter STOPPED with its counts kept; a rollover that is due does not happen (R122, R124;
log 5). -/
def Meter.stop (x : Meter) : Meter := { x with state := .stopped, rolloverDue := false }

/-- METER_RUN: METER_CONTROL RUN gives no trigger (R121). -/
def execMeterRun (s : State) : Outcome := whenRunning s (takeMreq .meterRun (meterControl 0 Meter.run false))

/-- METER_STOP: METER_CONTROL STOP gives the METER trigger (R122). -/
def execMeterStop (s : State) : Outcome := whenRunning s (takeMreq .meterStop (meterControl 1 Meter.stop true))

/-- METER_RESTART: METER_CONTROL RESTART starts a fresh period and gives the METER trigger (R123). -/
def execMeterRestart (s : State) : Outcome :=
  whenRunning s (takeMreq .meterRestart (meterControl 2 Meter.freshPeriod true))

end Sys2Proof.Machine
end

