-- ==== Sys2Proof/Machine/PowerOn.lean ====
section
/-! DEFINITION. RST_N: POWER_ON_RESET and RST_N_ASSERTED. -/

namespace Sys2Proof.Machine

/-- POWER_ON_RESET: RST_N is released, the straps are sampled, and every block takes its power-on state
(R157, R153, R151). The inputs of the model, the queue of commands and the choice of log 30, are not the bridge's and
are kept (log 7). -/
def execPowerOnReset (straps : Straps) (s : State) : Outcome :=
  .next { State.powerOn straps with pending := s.pending, slotTriggerWaits := s.slotTriggerWaits }

/-- RST_N_ASSERTED: RST_N is low; every item, slot and fault is lost and the bridge is held in reset until
RST_N is released, which samples the straps anew (R157; log 4). -/
def execRstNAsserted (s : State) : Outcome :=
  .next
    { State.powerOn s.straps with
      pending := s.pending, slotTriggerWaits := s.slotTriggerWaits, inReset := true }

end Sys2Proof.Machine
end

