-- ==== Sys2Proof/Machine/Router.lean ====
section
/-! DEFINITION. The answer router's events and the ends of long operations: ANSWER, DEADLINE_EXPIRY,
HOLD_LIST_PLACE, RETIRE_COMPLETE, SET_MODE_COMPLETE. -/

namespace Sys2Proof.Machine

/-- The router, granted, takes the oldest ANSWER of the M receive buffer (R98) and routes it (R99). -/
def takeAnswer (s : State) : State :=
  if s.granted = some .router then
    match s.answerToTake with
    | some pkt => if pkt.kind = .answer then routeAnswer pkt (takeFromM s) else s
    | none => s
  else s

/-- ANSWER: the router takes an ANSWER (R98, R99). -/
def execAnswer (s : State) : Outcome := whenRunning s takeAnswer

/-- The router, granted, takes the expiry of the slot that became overdue first, while its hold list is empty
(R97). -/
def takeDeadlineExpiry (s : State) : State :=
  if s.granted = some .router ∧ s.holdList = [] then
    match firstOverdue s with
    | some i => expireSlot i (grantTo .router s)
    | none => s
  else s

/-- DEADLINE_EXPIRY: the expiry of an overdue READ or WRITE slot is taken (R97). -/
def execDeadlineExpiry (s : State) : Outcome := whenRunning s takeDeadlineExpiry

/-- One entry of the hold list has been placed: no reply waits for it any longer (R147). -/
def Reply.holdPlaced (r : Reply) : Reply := { r with holdAhead := r.holdAhead - 1 }

/-- The router, granted, places the head of the answer hold list; the list's emptying gives a SLOT trigger
(R106). -/
def placeHoldHead (s : State) : State :=
  if s.granted = some .router then
    match s.holdList with
    | [] => s
    | h :: rest =>
      let a := placeC (answerPacket s h.dest h.tag h.status h.length []) (grantTo .router s)
      let b := (a.setHoldList rest).setReplies (a.replies.map Reply.holdPlaced)
      if rest.isEmpty then slotTrigger b else b
  else s

/-- HOLD_LIST_PLACE: the head of the answer hold list is placed (R106). -/
def execHoldListPlace (s : State) : Outcome := whenRunning s placeHoldHead

/-- RETIRE_COMPLETE: a RETIRE in progress with no DRAINING entry left ends, with its OK reply due (R23). The
event that frees the last entry takes this completion with it (R105; log 6). -/
def execRetireComplete (s : State) : Outcome := whenRunning s completeRetire

/-- SET_MODE_COMPLETE: a SET_MODE in progress with no marked slot left ends, with its OK reply due (R66). The
event that frees the last marked slot takes this completion with it (R105; log 6). -/
def execSetModeComplete (s : State) : Outcome := whenRunning s completeSetMode

end Sys2Proof.Machine
end

