-- ==== Sys2Proof/Machine/Dispatch.lean ====
section
/-! DEFINITION. The dispatch of the commands: one arm per row of spec/opcode_table.json, one meaning each. -/

namespace Sys2Proof.Machine

def exec (i : Instr) (s : State) : Host.Outcome State Fault Refusal :=
  match i with
  | .powerOnReset straps => Sys2Proof.Machine.execPowerOnReset straps s
  | .tick => Sys2Proof.Machine.execTick s
  | .meterRollover m => Sys2Proof.Machine.execMeterRollover m s
  | .expiryDue => Sys2Proof.Machine.execExpiryDue s
  | .slotOverdue k => Sys2Proof.Machine.execSlotOverdue k s
  | .wordAlignmentAcquired p => Sys2Proof.Machine.execWordAlignmentAcquired p s
  | .alignmentLost p => Sys2Proof.Machine.execAlignmentLost p s
  | .alignmentLossExpiry p => Sys2Proof.Machine.execAlignmentLossExpiry p s
  | .trainWord p w => Sys2Proof.Machine.execTrainWord p w s
  | .creditWord p count => Sys2Proof.Machine.execCreditWord p count s
  | .sendCredit p => Sys2Proof.Machine.execSendCredit p s
  | .sendPacket p => Sys2Proof.Machine.execSendPacket p s
  | .packetReceived p checkRight pkt => Sys2Proof.Machine.execPacketReceived p checkRight pkt s
  | .read => Sys2Proof.Machine.execRead s
  | .write => Sys2Proof.Machine.execWrite s
  | .post => Sys2Proof.Machine.execPost s
  | .answer => Sys2Proof.Machine.execAnswer s
  | .retireComplete => Sys2Proof.Machine.execRetireComplete s
  | .setModeComplete => Sys2Proof.Machine.execSetModeComplete s
  | .deadlineExpiry => Sys2Proof.Machine.execDeadlineExpiry s
  | .holdListPlace => Sys2Proof.Machine.execHoldListPlace s
  | .parkExpiry => Sys2Proof.Machine.execParkExpiry s
  | .leavingAnswer => Sys2Proof.Machine.execLeavingAnswer s
  | .abortListPlace => Sys2Proof.Machine.execAbortListPlace s
  | .mreplyPlace => Sys2Proof.Machine.execMreplyPlace s
  | .alert => Sys2Proof.Machine.execAlert s
  | .identify => Sys2Proof.Machine.execIdentify s
  | .getSetting => Sys2Proof.Machine.execGetSetting s
  | .setSetting => Sys2Proof.Machine.execSetSetting s
  | .setMeterSetting => Sys2Proof.Machine.execSetMeterSetting s
  | .getDomain => Sys2Proof.Machine.execGetDomain s
  | .setDomain => Sys2Proof.Machine.execSetDomain s
  | .loadWindow => Sys2Proof.Machine.execLoadWindow s
  | .widenWindow => Sys2Proof.Machine.execWidenWindow s
  | .readWindow => Sys2Proof.Machine.execReadWindow s
  | .retireEntry => Sys2Proof.Machine.execRetireEntry s
  | .retireRange => Sys2Proof.Machine.execRetireRange s
  | .retireDomain => Sys2Proof.Machine.execRetireDomain s
  | .retireAll => Sys2Proof.Machine.execRetireAll s
  | .setMode => Sys2Proof.Machine.execSetMode s
  | .meterRun => Sys2Proof.Machine.execMeterRun s
  | .meterStop => Sys2Proof.Machine.execMeterStop s
  | .meterRestart => Sys2Proof.Machine.execMeterRestart s
  | .readFault => Sys2Proof.Machine.execReadFault s
  | .releaseFault => Sys2Proof.Machine.execReleaseFault s
  | .clearOverflow => Sys2Proof.Machine.execClearOverflow s
  | .faultSummary => Sys2Proof.Machine.execFaultSummary s
  | .portStatus => Sys2Proof.Machine.execPortStatus s
  | .resetWarm => Sys2Proof.Machine.execResetWarm s
  | .alignmentRegained p => Sys2Proof.Machine.execAlignmentRegained p s
  | .idleWord p => Sys2Proof.Machine.execIdleWord p s
  | .badRequest => Sys2Proof.Machine.execBadRequest s
  | .rstNAsserted => Sys2Proof.Machine.execRstNAsserted s

end Sys2Proof.Machine
end

