-- ==== Sys2Proof/Machine/Step.lean ====
section
/-! DEFINITION. One step: the command at the front of the queue is taken and executed. -/

namespace Sys2Proof.Machine

/-- One step: the command at the front of the queue, executed on the state with the queue's rest. With an
empty queue the oldest due SLOT trigger is taken (log 30), and with none due the bridge idles (log 3). -/
def step (s : State) : Host.Outcome State Fault Refusal :=
  match s.pending with
  | [] => whenRunning s takeDueTrigger
  | c :: rest => exec c { s with pending := rest }

/-- The state with the command that a word of the table spells put at the front of its queue; unchanged where
the word spells none. -/
def State.withFetchWord (s : State) (nbits w : Nat) : State :=
  match decodeTableWord nbits w with
  | some c => { s with pending := c :: s.pending }
  | none => s

end Sys2Proof.Machine
end

