-- ==== Sys2Proof/Safety.lean ====
section
/-! DEFINITION. What the manual promises of every state the bridge reaches: the laws of its rules as
predicates on the state, and the words that the statements about the bridge are written in. -/

namespace Sys2Proof.Machine

/-! ## The outstanding table and the windows -/

/-- R93: the free list holds every FREE slot exactly once and no WAITING slot. Marks are carried by WAITING
slots only (R91). -/
structure State.SlotsLaw (s : State) : Prop where
  nodup : s.freeList.Nodup
  free_iff : ∀ i : Fin 32, i ∈ s.freeList ↔ (s.slots[i]).state = .free
  overdue : ∀ i : Fin 32, (s.slots[i]).overdue = true → (s.slots[i]).state = .waiting
  marked : ∀ i : Fin 32, (s.slots[i]).drainMark = true → (s.slots[i]).state = .waiting

/-- The slot is WAITING and references the entry (R8). -/
def Slot.references (j : Fin 64) (x : Slot) : Bool := x.state == .waiting && x.window == some j

/-- R8 with R2 and R9: an entry's in-flight count is the number of WAITING slots that reference it, a FREE entry
has none, a DRAINING entry has some. -/
structure State.FlightLaw (s : State) : Prop where
  count : ∀ j : Fin 64, (s.windows[j]).inFlight = countTable (Slot.references j) s.slots
  free : ∀ j : Fin 64, (s.windows[j]).state = .free → (s.windows[j]).inFlight = 0
  draining : ∀ j : Fin 64, (s.windows[j]).state = .draining → (s.windows[j]).inFlight ≠ 0

/-- A RETIRE is in progress (R148). -/
def LongOp.isRetire : LongOp → Bool
  | .retire _ _ _ _ => true
  | .idle | .setMode _ _ _ _ => false

/-- A SET_MODE is in progress (R148). -/
def LongOp.isSetMode : LongOp → Bool
  | .setMode _ _ _ _ => true
  | .idle | .retire _ _ _ _ => false

/-- R23 and R66: DRAINING entries exist exactly while a RETIRE is in progress, and marked slots exactly while a
SET_MODE is. -/
structure State.LongOpLaw (s : State) : Prop where
  retire : s.longOp.isRetire = s.anyDraining
  setMode : s.longOp.isSetMode = s.anyMarked

/-- The laws of slots, windows and long operations together. -/
structure State.TableLaw (s : State) : Prop where
  slots : s.SlotsLaw
  flight : s.FlightLaw
  long : s.LongOpLaw

/-- R5: no two ACTIVE entries match the same pair of domain and card address. -/
def State.DisjointLaw (s : State) : Prop :=
  ∀ (i j : Fin 64) (d : Fin 16) (a : Addr),
    (s.windows[i]).admits d a = true → (s.windows[j]).admits d a = true → i = j

/-- R1: an ACTIVE or DRAINING entry holds values in the ranges of the table. -/
def State.RangeLaw (s : State) : Prop :=
  ∀ i : Fin 64, (s.windows[i]).state ≠ .free → (s.windows[i]).valuesOk = true

/-! ## The ports -/

/-- R157 and R159: what a port's record holds in and outside UP. -/
structure PortState.Law (x : PortState) : Prop where
  negotiated_up : x.training = .up → x.negotiated.isSome = true ∧ x.agreed.isSome = true
  outside_up : x.training ≠ .up → x.negotiated = none ∧ x.credits = 0 ∧ x.owed = 0 ∧ x.tx = []
  agreed_in : x.agreed.isSome = true → x.training = .agree ∨ x.training = .up
  agreed_valid : ∀ o, x.agreed = some o → offerValid o = true
  credits : x.credits ≤ 16
  owed : x.owed ≤ 16
  rx : x.rx.length ≤ capacity
  tx : x.tx.length ≤ capacity

/-- Both ports satisfy the law of R157, and a waiting answer or reply exists only while the C-port is UP (R87, R106, R147). -/
structure State.PortsLaw (s : State) : Prop where
  c : s.cPort.Law
  m : s.mPort.Law
  waiting : s.cUp = false → s.abortList = [] ∧ s.holdList = [] ∧ s.replies = []

/-! ## Meters, log, alert -/

/-- R111 and R113: the ranges of a meter's settings and of its used count, and a period count below the period. The
clause `due` is about the mark of log 5, the model's own. -/
structure Meter.Law (x : Meter) : Prop where
  period : 1 ≤ x.period ∧ x.period ≤ 65535
  budget : x.budget ≤ 65535
  next : ∀ n, x.next = some n → 1 ≤ n.period ∧ n.period ≤ 65535 ∧ n.budget ≤ 65535
  count : x.periodCount < x.period
  used : x.used ≤ 65535
  due : x.rolloverDue = true → x.state = .running ∧ x.periodCount + 1 = x.period

/-- Every meter satisfies the law of R111 and R113. -/
def State.MetersLaw (s : State) : Prop := ∀ m : Fin 4, (s.meters[m]).Law

/-- R128: no two pending records have the same key, and no repeat count exceeds 255 (R126). -/
structure State.LogLaw (s : State) : Prop where
  keys : ∀ i j : Fin 16, (s.log.records[i]).pending = true → (s.log.records[j]).pending = true →
    (s.log.records[i]).info.sameKey (s.log.records[j]).info = true → i = j
  repeats : ∀ i : Fin 16, (s.log.records[i]).repeatCount ≤ 255

/-- R139: the alert is pending only while the mask is set or the C-port is not UP, and due only while the mask is
clear and the port UP. -/
structure State.AlertLaw (s : State) : Prop where
  pending : s.alert.pending = true → s.alert.mask = true ∨ s.cUp = false
  due : s.alert.due = true → s.alert.mask = false ∧ s.cUp = true

/-! ## The park queue -/

/-- The item is PARKED with reason BEHIND. -/
def ParkItem.isBehind (it : ParkItem) : Bool := it.waitsFor (· == .behind)

/-- R71: of the items that follow an older item of their source every one is BEHIND, and no other is. -/
def behindExactly (seen : List SourceId) : List ParkItem → Bool
  | [] => true
  | it :: rest => it.isBehind == seen.contains it.req.source && behindExactly (it.req.source :: seen) rest

/-- R70: a POST has no upstream tag and is never LEAVING (R81), a READ or WRITE has a tag. -/
def ParkItem.shapeOk (it : ParkItem) : Bool :=
  match it.req.kind with
  | .post => it.req.tag.isNone && it.isParked
  | .read | .write => it.req.tag.isSome

/-- R71, R42: at most 16 items, serial numbers that rise, BEHIND exactly for the items that have an older item of
their source ahead, and an empty queue in SHUT mode. -/
structure State.ParkLaw (s : State) : Prop where
  length : s.park.length ≤ capacity
  serials : (s.park.map ParkItem.serial).Pairwise (· < ·)
  behind : behindExactly [] s.park = true
  shapes : s.park.all ParkItem.shapeOk = true
  shut : s.mode = .shutMode → s.park = []

/-! ## What a statement says a state is about to do -/

/-- What no run, answer, trigger or fault changes: each item has commands of its own that change it. -/
structure Standing where
  pending : List Instr
  inReset : Bool
  straps : Straps
  tick : Tick
  mode : Mode
  domains : Vector DomainRecord 64
  parkLimit : Nat
  answerTimeout : Nat
  slotTriggerWaits : Bool
  deriving DecidableEq, Repr

/-- The standing items of a state. -/
def State.standing (s : State) : Standing :=
  { pending := s.pending, inReset := s.inReset, straps := s.straps, tick := s.tick, mode := s.mode,
    domains := s.domains, parkLimit := s.parkLimit, answerTimeout := s.answerTimeout,
    slotTriggerWaits := s.slotTriggerWaits }

/-- The admission unit is to take `p` next: RST_N is high, the arbiter grants it, and `p` is the oldest packet of
the C receive buffer (R39, R163). -/
def State.Takes (s : State) (p : Packet) : Prop := s.inReset = false ∧ s.packetToTake = some p

/-- The arbiter grants the producer, and RST_N is high (R163). -/
def State.Grants (s : State) (q : Producer) : Prop := s.inReset = false ∧ s.granted = some q

/-- The packet that is to be taken is an MREQ with a payload, of a source that may manage the bridge (R33). -/
structure State.Asks (s : State) (p : Packet) (payload : List Byte) : Prop where
  takes : s.Takes p
  kind : p.kind = .mreq
  permitted : permitted s p.source = true
  payload : p.payload = payload

/-- The state after an MREQ is taken and answered at once, where the request has no other effect (R146). -/
def State.replied (s : State) (p : Packet) (status : MgmtStatus) (results : List Byte) : State :=
  reply p status results (takeFromC s)

/-- The command that takes a data request of the kind. -/
def ReqKind.command : ReqKind → Instr
  | .read => .read
  | .write => .write
  | .post => .post

/-- The packet kind of a data request. -/
def ReqKind.packetKind : ReqKind → PacketKind
  | .read => .read
  | .write => .write
  | .post => .post

/-- The command that executes the requests of a management row. -/
def MgmtRow.command : MgmtRow → Instr
  | .identify => .identify
  | .getSetting => .getSetting
  | .setSetting => .setSetting
  | .setMeterSetting => .setMeterSetting
  | .getDomain => .getDomain
  | .setDomain => .setDomain
  | .loadWindow => .loadWindow
  | .widenWindow => .widenWindow
  | .readWindow => .readWindow
  | .retireEntry => .retireEntry
  | .retireRange => .retireRange
  | .retireDomain => .retireDomain
  | .retireAll => .retireAll
  | .setMode => .setMode
  | .meterRun => .meterRun
  | .meterStop => .meterStop
  | .meterRestart => .meterRestart
  | .readFault => .readFault
  | .releaseFault => .releaseFault
  | .clearOverflow => .clearOverflow
  | .faultSummary => .faultSummary
  | .portStatus => .portStatus
  | .resetWarm => .resetWarm
  | .badRequest => .badRequest

/-- The place of a producer in the table of R163. -/
def Producer.place : Producer → Nat
  | .admission => 0
  | .parkQueue => 1
  | .router => 2
  | .management => 3
  | .alertCtl => 4

/-- How far a producer stands behind the one the rotation begins with (R163). -/
def Producer.wait (q first : Producer) : Nat := (q.place + 5 - first.place) % 5

/-! ## Admission, said from the rules -/

/-- R4: the entry matches a request of the domain at the card address. -/
def WindowEntry.Matches (e : WindowEntry) (d : Fin 16) (a : Addr) : Prop :=
  e.state = .active ∧ (e.domain = .numbered d ∨ e.domain = .shared)
    ∧ e.cardBase.toNat ≤ a.toNat ∧ a.toNat < e.cardBase.toNat + 2 ^ e.sizeExp

/-- R50: the rights that a request of the kind needs from a source of the class. -/
def Rights.Grant (x : Rights) (c : SourceClass) (k : ReqKind) : Prop :=
  (k = .read → x.read = true) ∧ (k ≠ .read → x.write = true) ∧ (c = .user → x.userOpen = true)

/-- R114: the cost of a length under a basis. -/
def Basis.costOf (b : Basis) (length : Nat) : Nat :=
  match b with
  | .requests => 1
  | .bytes64 => (length + 63) / 64

/-- What the GUARD path asks of a request it forwards through entry `i`, but for the outstanding slot
(R47 to R52, R43 to R45). -/
structure State.AdmitsGuard (s : State) (r : Request) (i : Fin 64) : Prop where
  mode : s.mode = .guardMode
  known : (s.domains[sourceIndex r.source]).valid = true
  first : ∀ it ∈ s.park, it.req.source ≠ r.source
  found : (s.windows[i]).Matches (s.domains[sourceIndex r.source]).domain r.address
  whole : r.address.toNat + r.length ≤ (s.windows[i]).cardBase.toNat + 2 ^ (s.windows[i]).sizeExp
  granted : (s.windows[i]).rights.Grant (s.domains[sourceIndex r.source]).sourceClass r.kind
  fits : ∀ n, s.mPort.negotiated = some n → r.length ≤ n
  budget : ∀ m, (s.windows[i]).meter = some m → (s.meters[m]).state = .running →
    (s.meters[m]).used + (s.meters[m]).basis.costOf r.length ≤ (s.meters[m]).budget
  up : s.mPort.training = .up
  place : s.mPort.tx.length < 16

/-- What the OPEN path asks of a request it forwards, but for the outstanding slot (R46). -/
structure State.AdmitsOpen (s : State) (r : Request) : Prop where
  mode : s.mode = .openMode
  first : ∀ it ∈ s.park, it.req.source ≠ r.source
  fits : ∀ n, s.mPort.negotiated = some n → r.length ≤ n
  up : s.mPort.training = .up
  place : s.mPort.tx.length < 16

/-- R55: a packet sent to memory comes from a known source and lies, at its memory address, wholly within an
ACTIVE entry that serves the source's domain and grants the packet's kind to its class. -/
def State.Confines (s : State) (pkt : Packet) : Prop :=
  (s.domains[sourceIndex pkt.source]).valid = true ∧
  ∃ (i : Fin 64) (a : Addr) (k : ReqKind),
    (s.windows[i]).Matches (s.domains[sourceIndex pkt.source]).domain a
      ∧ a.toNat + pkt.length ≤ (s.windows[i]).cardBase.toNat + 2 ^ (s.windows[i]).sizeExp
      ∧ (s.windows[i]).rights.Grant (s.domains[sourceIndex pkt.source]).sourceClass k
      ∧ (pkt.kind = .read ↔ k = .read)
      ∧ pkt.address = (s.windows[i]).memBase + (a - (s.windows[i]).cardBase)

/-! ## Receive checks, said from R162 -/

/-- R162, order 2: the packet is malformed at port `q` with negotiated payload `n`. -/
def MalformedAt (pkt : Packet) (q : Port) (n : Nat) : Prop :=
  (∃ c, pkt.kind = .unknown c)
  ∨ (pkt.length = 0 ∧ (pkt.kind = .read ∨ pkt.kind = .write ∨ pkt.kind = .post ∨ pkt.kind = .answer))
  ∨ (n < pkt.length ∧ (pkt.kind = .read ∨ pkt.kind = .write ∨ pkt.kind = .post))
  ∨ n < pkt.payload.length
  ∨ (pkt.payload.length ≠ pkt.length ∧ (pkt.kind = .write ∨ pkt.kind = .post))
  ∨ (pkt.payload ≠ [] ∧ pkt.kind = .read)
  ∨ (pkt.payload = [] ∧ pkt.kind = .mreq)
  ∨ (2 ^ 40 < pkt.address.toNat + pkt.length ∧ (pkt.kind = .read ∨ pkt.kind = .write ∨ pkt.kind = .post))
  ∨ (q = .m ∧ pkt.kind = .answer ∧ pkt.status ≠ 0 ∧ pkt.status ≠ 1)

/-- R162, orders 3 and 4: the packet's kind, or its destination for an MREQ, is not accepted at port `q`. -/
def MisplacedAt (pkt : Packet) (q : Port) (bid : SourceId) : Prop :=
  (q = .c ∧ (pkt.kind = .answer ∨ pkt.kind = .mreply ∨ pkt.kind = .alert))
  ∨ (q = .m ∧ pkt.kind ≠ .answer)
  ∨ (pkt.kind = .mreq ∧ pkt.dest ≠ bid)

/-! ## RETIRE, said from R20 to R22 -/

/-- The outcome of a RETIRE that selects the ACTIVE entries satisfying `sel`: the entries (R21), the count and the
widened flag (R22), and the reply or the long operation. Nothing but the windows, the long operation and the C-port
differs from the state after the taking. -/
structure RetireOutcome (s : State) (p : Packet) (sel : WindowEntry → Bool) (widened : Bool) (t : State) :
    Prop where
  windows : ∀ j : Fin 64, t.windows[j] =
    if (s.windows[j]).state = .active ∧ sel s.windows[j] = true then
      { s.windows[j] with state := if (s.windows[j]).inFlight = 0 then .free else .draining }
    else s.windows[j]
  atOnce : (∀ j : Fin 64, (s.windows[j]).state = .active → sel s.windows[j] = true → (s.windows[j]).inFlight = 0) →
    t = { s.replied p .ok (BitVec.ofNat 8 (countTable (fun e => decide (e.state = .active) && sel e) s.windows)
            :: [flagByte widened]) with windows := t.windows }
  deferred : (∃ j : Fin 64, (s.windows[j]).state = .active ∧ sel s.windows[j] = true ∧ (s.windows[j]).inFlight ≠ 0) →
    t = { takeFromC s with
          windows := t.windows
          longOp := .retire p.source p.tag (countTable (fun e => decide (e.state = .active) && sel e) s.windows)
            widened }

end Sys2Proof.Machine
end

