-- ==== Sys2Proof/WellFormed.lean ====
section
/-! DEFINITION. Well-formed commands: the operands that a link can carry (R169). -/

namespace Sys2Proof

/-- A kind code that `unknown` holds is none of the seven codes of R169. -/
def PacketKind.wellFormed : PacketKind → Bool
  | .unknown c => !(decide (1 ≤ c.toNat) && decide (c.toNat ≤ 7))
  | _ => true

/-- A packet whose length fields fit the two bytes the header gives each (R169). -/
def Packet.wellFormed (p : Packet) : Bool :=
  p.kind.wellFormed && decide (p.length < 65536) && decide (p.payload.length < 65536)

/-- A command is well formed when the packet it carries, if any, is one. -/
def Instr.wellFormed : Instr → Bool
  | .packetReceived _ _ pkt => pkt.wellFormed
  | .powerOnReset _ | .tick | .meterRollover _ | .expiryDue | .slotOverdue _
  | .wordAlignmentAcquired _ | .alignmentLost _ | .alignmentLossExpiry _ | .trainWord _ _
  | .creditWord _ _ | .sendCredit _ | .sendPacket _ | .read | .write | .post | .answer
  | .retireComplete | .setModeComplete | .deadlineExpiry | .holdListPlace | .parkExpiry
  | .leavingAnswer | .abortListPlace | .mreplyPlace | .alert | .identify | .getSetting
  | .setSetting | .setMeterSetting | .getDomain | .setDomain | .loadWindow | .widenWindow
  | .readWindow | .retireEntry | .retireRange | .retireDomain | .retireAll | .setMode
  | .meterRun | .meterStop | .meterRestart | .readFault | .releaseFault | .clearOverflow
  | .faultSummary | .portStatus | .resetWarm | .alignmentRegained _ | .idleWord _
  | .badRequest | .rstNAsserted => true

end Sys2Proof
end

