-- ==== Sys2Proof/Certificates/Slice0/Obligations.lean ====
section
/-! DEFINITION. The statements about the bridge that are to be proved. -/

section
open Sys2Proof Sys2Proof.Machine

/-! ## The machine as a whole -/

/-- A step takes the command at the front of the queue, and is that command's effect on the state with the
queue's rest.
With an empty queue one SLOT trigger that is due is taken, in a state out of reset (R73, R79; the model's choice, log
30), and with none due the bridge idles (the model's choice, log 3). -/
def Obligations.StepTakesTheFrontCommandOrIdles : Prop :=
  (∀ (c : Instr) (rest : List Instr) (s : State), s.pending = c :: rest →
    step s = exec c { s with pending := rest }) ∧
  (∀ s : State, s.pending = [] → s.inReset = true ∨ s.slotTriggersDue = 0 → step s = .next s) ∧
  (∀ (s : State) (n : Nat), s.pending = [] → s.inReset = false → s.slotTriggersDue = n + 1 →
    step s = .next (trigger (fun r => decide (r = .slot)) { s with slotTriggersDue := n }))

/-- Every command completes, in every state, and leaves the queue of commands as it was. That a command whose event
does not take place completes, with the state as it was, is the model's choice (log 2), and that no command touches the
queue is the model's choice (log 7).
What each item that no run, trigger or fault touches is changed by: the mode by SET_MODE, the park limit and the
answer timeout by SET_SETTING, the timebase by TICK, the straps by a power-on reset, and RST_N's state by the two
commands of RST_N. No command changes the model's input of log 30. -/
def Obligations.EveryCommandCompletesAndChangesOnlyItsOwnStandingItems : Prop :=
  (∀ (c : Instr) (s : State), ∃ t, exec c s = .next t ∧ t.pending = s.pending ∧
    t.slotTriggerWaits = s.slotTriggerWaits) ∧
  (∀ (c : Instr) (s t : State), exec c s = .next t → c ≠ .rstNAsserted → (∀ straps, c ≠ .powerOnReset straps) →
    t.straps = s.straps ∧ t.inReset = s.inReset ∧
    (c ≠ .tick → t.tick = s.tick) ∧
    (c ≠ .setMode → t.mode = s.mode) ∧
    (c ≠ .setSetting → t.parkLimit = s.parkLimit ∧ t.answerTimeout = s.answerTimeout) ∧
    (c ≠ .setSetting → t.alert.mask = s.alert.mask ∧ t.alert.dest = s.alert.dest))

/-- An event whose conditions do not hold changes nothing. The model's choice (log 2).
A data command needs a packet of its kind to be taken, a management command an MREQ of its row, and a claim the
grant of its producer. -/
def Obligations.AnEventWithoutItsConditionsChangesNothing : Prop :=
  (∀ (k : ReqKind) (s : State), (∀ p, s.packetToTake = some p → p.kind ≠ k.packetKind) →
      exec k.command s = .next s) ∧
  (∀ (row : MgmtRow) (s : State), (∀ p, s.packetToTake = some p → p.kind = .mreq → mreqRow p.payload ≠ row) →
      exec row.command s = .next s) ∧
  (∀ s : State, s.granted ≠ some .router →
      exec .answer s = .next s ∧ exec .deadlineExpiry s = .next s ∧ exec .holdListPlace s = .next s) ∧
  (∀ s : State, s.granted ≠ some .parkQueue →
      exec .parkExpiry s = .next s ∧ exec .leavingAnswer s = .next s ∧ exec .abortListPlace s = .next s) ∧
  (∀ s : State, s.granted ≠ some .management → exec .mreplyPlace s = .next s) ∧
  (∀ s : State, s.granted ≠ some .alertCtl → exec .alert s = .next s)

/-- POWER_ON_RESET samples the straps and gives every item of state its power-on value; the inputs of the model, the
queue of commands (log 7) and the choice of log 30, are not the bridge's.
RST_N low: every block is at its power-on value with the straps last sampled, and until RST_N is released no
command but the two of RST_N changes anything. The held straps are the model's choice (log 4). The items of the model's
own begin clear, 0 or absent (logs 5, 10, 11, 15, 22, 30). -/
def Obligations.RstNGivesThePowerOnValuesAndHoldsTheBridge : Prop :=
  let downPort : PortState :=
    { training := .down, trainCount := 0, lastOffer := none, agreed := none, negotiated := none, credits := 0, owed := 0
      rx := [], tx := []
      indications :=
        { wentDown := false, cameUp := false, checkError := false, malformed := false, misplaced := false,
          creditError := false }
      lossTicks := none, sent := [] }
  (∀ (straps : Straps) (s : State),
    exec (.powerOnReset straps) s = .next
      { pending := s.pending
        inReset := false
        straps := straps
        tick := 0
        mode := match straps.smode with
          | .startOpen => .openMode
          | .startShut => .shutMode
        domains := Vector.replicate 64
          { valid := false, domain := 0, sourceClass := .user, missPolicy := .refuse, mayManage := false }
        windows := Vector.replicate 64
          { state := .free, domain := .numbered 0, cardBase := 0, sizeExp := 0, memBase := 0,
            rights := { read := false, write := false, userOpen := false }, delivery := .asSent, meter := none,
            inFlight := 0, admissions := 0 }
        park := []
        abortList := []
        parkLimit := 500
        slots := Vector.replicate 32
          { state := .free, origin := 0, upTag := some 0, kind := .read, window := none, length := 0,
            deadline := 0, overdue := false, drainMark := false, generation := 0, overdueFor := 0 }
        freeList := List.finRange 32
        holdList := []
        answerTimeout := 4000
        meters := Vector.replicate 4
          { state := .stopped, basis := .requests, period := 1000, budget := 65535, action := .hold,
            buffered := false, next := none, periodCount := 0, used := 0, rolloverDue := false }
        log :=
          { records := Vector.replicate 16
              { pending := false
                info := { kind := .noFault, source := none, locus := .nowhere, reqKind := none, address := none }
                firstTick := 0, repeatCount := 0 }
            writePos := 0
            overflow := false }
        alert := { mask := true, dest := straps.msrc, pending := false, due := false }
        longOp := .idle
        replies := []
        cPort := downPort
        mPort := downPort
        nextProducer := .admission
        slotTriggerWaits := s.slotTriggerWaits
        slotTriggersDue := 0 }) ∧
  ((∀ s : State, exec .rstNAsserted s =
      .next
        { State.powerOn s.straps with
          pending := s.pending, slotTriggerWaits := s.slotTriggerWaits, inReset := true }) ∧
  (∀ (c : Instr) (s : State), s.inReset = true → c ≠ .rstNAsserted → (∀ straps, c ≠ .powerOnReset straps) →
      exec c s = .next s))

/-- R28: the domain table's power-on values, and SET_DOMAIN as the only command but a power-on reset that changes
it: a warm reset, admission, parking, answering, fault recording and every other command leave it. After power-on
every data request judged in GUARD is refused, only MSRC may manage the bridge, and the mode is OPEN or SHUT. -/
def Obligations.TheDomainTableChangesBySetDomainAlone : Prop :=
  (∀ (straps : Straps) (s : State), ∃ t, exec (.powerOnReset straps) s = .next t ∧
      (∀ i : Fin 64, t.domains[i] =
        { valid := false, domain := 0, sourceClass := .user, missPolicy := .refuse, mayManage := false }) ∧
      (∀ src, permitted t src = true ↔ src = straps.msrc) ∧
      (t.mode = .openMode ∨ t.mode = .shutMode) ∧
      (∀ (r : Request) (behind : Bool), judge { t with mode := .guardMode } r behind =
        .refuse .refused
          { kind := .unknownSource, source := some r.source, locus := .nowhere, reqKind := some r.kind,
            address := some r.address })) ∧
  (∀ (c : Instr) (s t : State), exec c s = .next t → c ≠ .setDomain → c ≠ .rstNAsserted →
      (∀ straps, c ≠ .powerOnReset straps) → t.domains = s.domains) ∧
  (∀ (s t : State), exec .setDomain s = .next t →
      t.domains = s.domains ∨
      ∃ (p : Packet) (i : Fin 64) (r : DomainRecord), s.Asks p (0x05 :: BitVec.ofNat 8 i.val :: r.bytes) ∧
        t.domains = setAt s.domains i r)

/-! ## Time -/

/-- R151: the timebase is 0 at the release of RST_N, rises by 1 on each TICK and wraps at 2^32, a warm reset leaves
it, ages and deadlines are differences modulo 2^32, and the settings item TICK reads it. -/
def Obligations.TheTimebaseCountsTicksModulo2Pow32 : Prop :=
  (∀ (straps : Straps) (s : State), ∃ t, exec (.powerOnReset straps) s = .next t ∧ t.tick = 0) ∧
  (∀ s : State, s.inReset = false →
      ∃ t, exec .tick s = .next t ∧ t.tick.toNat = (s.tick.toNat + 1) % 2 ^ 32) ∧
  (∀ s t : State, exec .resetWarm s = .next t → t.tick = s.tick) ∧
  (∀ (s : State) (it : ParkItem), it ∈ s.park → it.isParked = true →
      (it.reachedLimit s.tick s.parkLimit = true ↔
        s.parkLimit ≤ (s.tick.toNat + 2 ^ 32 - it.arrival.toNat) % 2 ^ 32)) ∧
  (∀ (k : SlotKind) (w : Option (Fin 64)) (r : Request) (s : State) (f : Fin 32) (rest : List (Fin 32)),
      s.freeList = f :: rest →
      ((takeSlot (some k) w r s).2.slots[f]).deadline.toNat = (s.tick.toNat + s.answerTimeout) % 2 ^ 32) ∧
  (∀ (s : State) (p : Packet), s.Asks p [0x02, 0x08] →
      exec .getSetting s = .next (s.replied p .ok (0x08 :: leBytes 4 s.tick.toNat)))

/-- TICK: the timebase rises by 1, each RUNNING meter counts the tick or finds its rollover due, each overdue slot has
been overdue for one tick more, each alignment loss counts the tick, and nothing else changes (R151, R113, R97, R158).
What fell due on the present tick and has not been taken is taken first: alignment losses, rollovers, expiry marks and
overdue slots, in that order, and then each SLOT trigger that waits; with nothing due, nothing is taken. That order, that
TICK takes what is left due, and that a mark records the due rollover are the model's choice (log 5), the SLOT triggers
that wait are log 30's, and the ticks of an overdue slot are the model's own count (log 15). -/
def Obligations.TickAdvancesTheTimebaseTheMetersAndTheLosses : Prop :=
  ∀ s : State, s.inReset = false →
    let due : List Instr := [.alignmentLossExpiry .c, .alignmentLossExpiry .m] ++ (List.finRange 4).map .meterRollover
      ++ [.expiryDue] ++ (List.finRange 32).map .slotOverdue
    let settled : State := due.foldl (fun u c =>
      match exec c u with
      | .next v => v
      | .fault _ | .refused _ => u) s
    let taken : State :=
      Nat.repeat (trigger fun r => decide (r = .slot)) settled.slotTriggersDue { settled with slotTriggersDue := 0 }
    let advanced (u t : State) : Prop :=
      t = { u with
            tick := u.tick + 1
            meters := t.meters
            slots := t.slots
            cPort := { u.cPort with lossTicks := u.cPort.lossTicks.map fun n => if n < 2000 then n + 1 else n }
            mPort := { u.mPort with lossTicks := u.mPort.lossTicks.map fun n => if n < 2000 then n + 1 else n } } ∧
      (∀ m : Fin 4, t.meters[m] =
        if (u.meters[m]).state = .stopped then u.meters[m]
        else if (u.meters[m]).periodCount + 1 < (u.meters[m]).period then
          { u.meters[m] with periodCount := (u.meters[m]).periodCount + 1 }
        else { u.meters[m] with rolloverDue := true }) ∧
      (∀ i : Fin 32, t.slots[i] =
        if (u.slots[i]).overdue = true then { u.slots[i] with overdueFor := (u.slots[i]).overdueFor + 1 }
        else u.slots[i])
    (∃ t, exec .tick s = .next t ∧ advanced taken t) ∧
    (s.cPort.lossTicks ≠ some 2000 → s.mPort.lossTicks ≠ some 2000 →
      (∀ m : Fin 4, (s.meters[m]).rolloverDue = false) →
      (∀ it ∈ s.park, it.isParked = true → s.parkLimit ≤ age s.tick it.arrival → it.expiryDue = true) →
      (∀ i : Fin 32, (s.slots[i]).state = .waiting → (s.slots[i]).deadline = s.tick → (s.slots[i]).overdue = true) →
      s.slotTriggersDue = 0 →
      ∃ t, exec .tick s = .next t ∧ advanced s t)

/-- R115: METER_ROLLOVER of a RUNNING meter whose period the tick has reached clears both counts, makes waiting next
values current, and gives the METER trigger of that meter. That the tick has reached the period is said by the mark
rolloverDue, which the rollover clears; the mark is the model's choice (log 5). -/
def Obligations.ARolloverStartsAFreshPeriodAndGivesTheTrigger : Prop :=
  ∀ (s : State) (m : Fin 4), s.inReset = false → (s.meters[m]).state = .running →
    (s.meters[m]).rolloverDue = true →
    exec (.meterRollover m) s = .next (meterTrigger m
      { s with
        meters := setAt s.meters m
          { s.meters[m] with
            periodCount := 0
            used := 0
            rolloverDue := false
            next := none
            period := match (s.meters[m]).next with
              | some n => n.period
              | none => (s.meters[m]).period
            budget := match (s.meters[m]).next with
              | some n => n.budget
              | none => (s.meters[m]).budget } })

/-- R82: EXPIRY_DUE sets the mark of every PARKED item whose age, the tick minus the arrival tick modulo 2^32, has
reached the park limit; a LEAVING item, and everything else, is as it was. -/
def Obligations.ExpiryDueMarksTheItemsThatReachedTheLimit : Prop :=
  ∀ s : State, s.inReset = false →
    exec .expiryDue s = .next
      { s with
        park := s.park.map fun it =>
          match it.state with
          | .parked _ =>
            if s.parkLimit ≤ (s.tick - it.arrival).toNat then { it with expiryDue := true } else it
          | .leaving _ _ => it }

/-- R97: SLOT_OVERDUE at the deadline tick of a WAITING slot. A READ or WRITE slot is marked overdue. A CONFIRM slot
is freed at once with fault ANSWER_TIMEOUT and no answer, and the SLOT trigger follows. -/
def Obligations.SlotOverdueMarksOrFreesAtTheDeadline : Prop :=
  ∀ (s : State) (i : Fin 32), s.inReset = false → (s.slots[i]).state = .waiting →
    (s.slots[i]).overdue = false → (s.slots[i]).deadline = s.tick →
    ((s.slots[i]).kind ≠ .confirm →
      exec (.slotOverdue i) s = .next { s with slots := setAt s.slots i { s.slots[i] with overdue := true } }) ∧
    ((s.slots[i]).kind = .confirm →
      exec (.slotOverdue i) s = .next (slotTrigger (freeSlot i (recordFault
        { kind := .answerTimeout
          source := some (s.slots[i]).origin
          locus := match (s.slots[i]).window with
            | some w => .window w
            | none => .nowhere
          reqKind := some .post
          address := none }
        { s with slots := setAt s.slots i { s.slots[i] with overdue := true } }))))

/-! ## The link ports -/

/-- R158: word alignment. Its acquisition takes a DOWN port to TRAIN; its loss keeps the training state and begins the
2000-tick count; its return before 2000 ticks ends the count and leaves the state as it was. Nothing else of the
bridge changes. A loss in DOWN, a loss during a loss and a return without a loss change nothing.
R158: a loss of word alignment that has lasted 2000 ticks sends a port to DOWN; a port in UP leaves UP for DOWN;
a shorter loss does neither. The count from 0, that a return at 2000 ticks comes too late, and that a loss in DOWN has
no effect are the model's choice (log 22). -/
def Obligations.WordAlignmentGainedAndLost : Prop :=
  (∀ (q : Port) (s : State), s.inReset = false →
    ((s.port q).training = .down →
      exec (.wordAlignmentAcquired q) s = .next (s.setPort q
        { s.port q with training := .train, trainCount := 0, lastOffer := none, agreed := none,
                        negotiated := none })) ∧
    ((s.port q).training ≠ .down → exec (.wordAlignmentAcquired q) s = .next s) ∧
    ((s.port q).training ≠ .down → (s.port q).lossTicks = none →
      exec (.alignmentLost q) s = .next (s.setPort q { s.port q with lossTicks := some 0 })) ∧
    (∀ n, (s.port q).lossTicks = some n → n < 2000 →
      exec (.alignmentRegained q) s = .next (s.setPort q { s.port q with lossTicks := none })) ∧
    ((s.port q).lossTicks = some 2000 → exec (.alignmentRegained q) s = .next s) ∧
    ((s.port q).lossTicks = none → exec (.alignmentRegained q) s = .next s) ∧
    ((s.port q).training = .down ∨ (s.port q).lossTicks ≠ none → exec (.alignmentLost q) s = .next s)) ∧
  (∀ (q : Port) (s : State), s.inReset = false →
    ((s.port q).lossTicks ≠ some 2000 → exec (.alignmentLossExpiry q) s = .next s) ∧
    ((s.port q).lossTicks = some 2000 → (s.port q).training ≠ .up →
      exec (.alignmentLossExpiry q) s = .next (s.setPort q
        { s.port q with training := .down, trainCount := 0, lastOffer := none, agreed := none,
                        negotiated := none, lossTicks := none })) ∧
    ((s.port q).lossTicks = some 2000 → (s.port q).training = .up →
      exec (.alignmentLossExpiry q) s = .next (portLeavesUp q .down s)))

/-- R158: TRAIN_WORD in TRAIN. The third of three consecutive valid words, identical in role, payload code and
buffers, decides: MISMATCH for a partner of the port's own role, AGREE with the word recorded for the opposite role.
An invalid word starts the count again; a valid word that differs is the first of a new count (log 10). -/
def Obligations.ThreeIdenticalTrainWordsDecideTheTraining : Prop :=
  ∀ (q : Port) (w : TrainWord) (s : State), s.inReset = false → (s.port q).training = .train →
    let x := s.port q
    let valid := (w.offer.role = .upper ∨ w.offer.role = .lower)
      ∧ (w.offer.payloadCode = 64 ∨ w.offer.payloadCode = 128 ∨ w.offer.payloadCode = 256)
      ∧ 1 ≤ w.offer.buffers ∧ w.offer.buffers ≤ 16
    let own : Role := match q with
      | .c => .lower
      | .m => .upper
    (¬valid → exec (.trainWord q w) s = .next (s.setPort q { x with trainCount := 0, lastOffer := none })) ∧
    (valid → x.lastOffer ≠ some w.offer →
      exec (.trainWord q w) s = .next (s.setPort q { x with trainCount := 1, lastOffer := some w.offer })) ∧
    (valid → x.lastOffer = some w.offer → x.trainCount + 1 < 3 →
      exec (.trainWord q w) s = .next (s.setPort q { x with trainCount := x.trainCount + 1 })) ∧
    (valid → x.lastOffer = some w.offer → 3 ≤ x.trainCount + 1 → w.offer.role = own →
      exec (.trainWord q w) s = .next (s.setPort q
        { x with training := .mismatch, trainCount := 0, lastOffer := none, agreed := none,
                 negotiated := none })) ∧
    (valid → x.lastOffer = some w.offer → 3 ≤ x.trainCount + 1 → w.offer.role ≠ own →
      exec (.trainWord q w) s = .next (s.setPort q
        { x with training := .agree, trainCount := 0, lastOffer := none, agreed := some w.offer }))

/-- R158, R159, R140: TRAIN_WORD in AGREE. A word that differs from the agreed word returns the port to TRAIN; one
without the agree mark starts the count again; the third with it takes the port to UP with the partner's payload code,
its buffers as send credits, nothing owed, an empty receive buffer and CAME_UP, and makes the C-port's pending alert
due when the mask is clear. The three words sent at UP are in the model's own record (log 11). In DOWN and MISMATCH no
word acts. That the word which returns a port to TRAIN is not counted there is the model's choice (log 10).
R159: TRAIN_WORD in UP. A word with the agree mark that equals the agreed word is ignored; any other returns the
port to TRAIN, by the loss of its link. -/
def Obligations.AgreedTrainWordsBringThePortUpAndOthersEndTheLink : Prop :=
  (∀ (q : Port) (w : TrainWord) (s : State), s.inReset = false →
    let x := s.port q
    ((x.training = .down ∨ x.training = .mismatch) → exec (.trainWord q w) s = .next s) ∧
    (x.training = .agree → x.agreed ≠ some w.offer →
      exec (.trainWord q w) s = .next (s.setPort q
        { x with training := .train, trainCount := 0, lastOffer := none, agreed := none, negotiated := none })) ∧
    (x.training = .agree → x.agreed = some w.offer → w.agree = false →
      exec (.trainWord q w) s = .next (s.setPort q { x with trainCount := 0, lastOffer := none })) ∧
    (x.training = .agree → x.agreed = some w.offer → w.agree = true → x.trainCount + 1 < 3 →
      exec (.trainWord q w) s = .next (s.setPort q { x with trainCount := x.trainCount + 1 })) ∧
    (x.training = .agree → x.agreed = some w.offer → w.agree = true → 3 ≤ x.trainCount + 1 →
      let up : PortState :=
        { x with
          training := .up, trainCount := 0, lastOffer := none, agreed := some w.offer
          negotiated := some (min 256 w.offer.payloadCode), credits := w.offer.buffers, owed := 0, rx := []
          indications := { x.indications with cameUp := true }
          sent := x.sent ++ List.replicate 3 (.train { offer := ownOffer q, agree := true }) }
      exec (.trainWord q w) s = .next
        (match q with
         | .c =>
           { s with
             cPort := up
             alert := if s.alert.pending = true ∧ s.alert.mask = false then
                 { s.alert with pending := false, due := true } else s.alert }
         | .m => { s with mPort := up }))) ∧
  (∀ (q : Port) (w : TrainWord) (s : State), s.inReset = false → (s.port q).training = .up →
    (w.agree = true → (s.port q).agreed = some w.offer → exec (.trainWord q w) s = .next s) ∧
    ((w.agree = false ∨ (s.port q).agreed ≠ some w.offer) →
      exec (.trainWord q w) s = .next (portLeavesUp q .train s)))

/-- R159, R165, R89, R140: the C-port's loss. WENT_DOWN is latched, the credits become 0, the send queue, the park
queue, the abort list, the hold list and the reply list are emptied, a due ALERT is pending again, and the decided
faults of the LEAVING items are recorded, in queue order. The receive buffer, the slots and the long operation are
kept, and nothing else changes. The order of those faults is the model's choice (log 33), as is that the agreed word is
removed when the port goes to TRAIN (R157 and R159 differ, log 9), and that the hold list's SLOT trigger comes after the park queue is emptied and so finds nothing
is inferred (log 24). -/
def Obligations.TheLossOfTheCPortDiscardsWhatWaitsToBeSent : Prop :=
  ∀ (after : Training) (s : State), after = .train ∨ after = .down →
    portLeavesUp .c after s =
      (s.park.filterMap fun it =>
        match it.state with
        | .leaving _ fault => some fault
        | .parked _ => none).foldl (fun u fault => recordFault fault u)
      { s with
        cPort :=
          { s.cPort with
            training := after, trainCount := 0, lastOffer := none, agreed := none, negotiated := none
            lossTicks := if after = .down then none else s.cPort.lossTicks
            credits := 0, owed := 0, tx := []
            indications := { s.cPort.indications with wentDown := true } }
        park := []
        abortList := []
        holdList := []
        replies := []
        alert := if s.alert.due = true then { s.alert with due := false, pending := true } else s.alert }

/-- R108, R159, R164, R104: the M-port's loss in a state whose tables obey their laws. Every WAITING slot is freed and
joins the free list in ascending order, every in-flight count is 0, no entry is DRAINING, no slot is marked, no long
operation is in progress and its OK reply is listed, a fault TARGET_LOST is recorded for each slot and then for each
posted write of the M send queue, and the READ and WRITE slots are answered TARGET_LOST in ascending order: in the free places of
the C send queue, then on the hold list, or not at all while the C-port is not UP. The event ends with one SLOT
trigger, which is taken within it and so finds the M-port not UP. That the agreed word is removed when the port goes to
TRAIN is the model's choice (R157 and R159 differ, log 9), and so is that a SET_MODE's deferred reply waits for none of
the request's ABORTED answers (log 32). -/
def Obligations.TheLossOfTheMPortFreesEverySlotWithTargetLost : Prop :=
  ∀ (after : Training) (s : State), after = .train ∨ after = .down → s.TableLaw →
    let answered := (List.finRange 32).filter fun i =>
      decide ((s.slots[i]).state = .waiting) && decide ((s.slots[i]).kind ≠ .confirm) && (s.slots[i]).upTag.isSome
    let faults : List FaultInfo :=
      ((List.finRange 32).filter fun i => decide ((s.slots[i]).state = .waiting)).map (fun i =>
        { kind := .targetLost, source := some (s.slots[i]).origin, locus := .nowhere
          reqKind := some (match (s.slots[i]).kind with
            | .read => .read
            | .write => .write
            | .confirm => .post)
          address := none }) ++
      (s.mPort.tx.filter fun pkt => decide (pkt.kind = .post)).map (fun pkt =>
        { kind := .targetLost, source := some pkt.source, locus := .nowhere, reqKind := some .post,
          address := none })
    let free := 16 - s.cPort.tx.length
    ∃ u : State, portLeavesUp .m after s = trigger (fun r => decide (r = .slot)) u ∧
      u.standing = s.standing ∧ u.park = s.park ∧ u.abortList = s.abortList ∧ u.meters = s.meters ∧
      u.nextProducer = s.nextProducer ∧ u.slotTriggersDue = s.slotTriggersDue ∧
      u.mPort =
        { s.mPort with
          training := after, trainCount := 0, lastOffer := none, agreed := none, negotiated := none
          lossTicks := if after = .down then none else s.mPort.lossTicks
          credits := 0, owed := 0, tx := []
          indications := { s.mPort.indications with wentDown := true } } ∧
      (∀ i : Fin 32, u.slots[i] =
        if (s.slots[i]).state = .waiting then
          { s.slots[i] with state := .free, generation := (s.slots[i]).generation + 1, overdue := false,
                            drainMark := false }
        else s.slots[i]) ∧
      u.freeList = s.freeList ++ (List.finRange 32).filter (fun i => decide ((s.slots[i]).state = .waiting)) ∧
      (∀ j : Fin 64, u.windows[j] =
        { s.windows[j] with
          inFlight := 0
          state := if (s.windows[j]).state = .draining then .free else (s.windows[j]).state }) ∧
      u.log = (faults.foldl (fun v fault => recordFault fault v) s).log ∧
      u.alert = (faults.foldl (fun v fault => recordFault fault v) s).alert ∧
      u.longOp = .idle ∧
      u.replies = s.replies ++
        (match s.longOp with
         | .idle => []
         | .retire src tag retired widened =>
           if s.cUp then
             [{ abortAhead := 0, holdAhead := 0,
                packet := mreplyPacket s src tag 0x09 .ok [BitVec.ofNat 8 retired, flagByte widened] }]
           else []
         | .setMode src tag oldMode marked =>
           if s.cUp then
             [{ abortAhead := 0, holdAhead := 0,
                packet := mreplyPacket s src tag 0x0A .ok
                  [BitVec.ofNat 8 oldMode.code, BitVec.ofNat 8 marked] }]
           else []) ∧
      (s.cUp = true →
        u.cPort =
          { s.cPort with
            tx := s.cPort.tx ++ (answered.take free).map fun i =>
              answerPacket s (s.slots[i]).origin ((s.slots[i]).upTag.getD 0) .targetLost (s.slots[i]).length [] } ∧
        u.holdList = s.holdList ++ (answered.drop free).map fun i =>
          { dest := (s.slots[i]).origin, tag := (s.slots[i]).upTag.getD 0, length := (s.slots[i]).length,
            status := .targetLost }) ∧
      (s.cUp = false → u.cPort = s.cPort ∧ u.holdList = s.holdList)

/-- R160, R161, R158: CREDIT_WORD, SEND_CREDIT and IDLE_WORD. In UP a count of 1 to 16 is added to the send credits,
up to the agreed buffers count with CREDIT_ERROR beyond it, and any other count latches CREDIT_ERROR; SEND_CREDIT
returns every credit owed; an IDLE word changes nothing. In TRAIN and AGREE a CREDIT or IDLE word starts the count of
three again, and in DOWN and MISMATCH it does nothing. Nothing else changes but the record of what has been sent, the
model's own (log 11). -/
def Obligations.CreditAndIdleWordsActOnTheCreditsAndTheCount : Prop :=
  ∀ (q : Port) (n : Nat) (s : State), s.inReset = false →
    let x := s.port q
    (x.training = .up → n = 0 ∨ 16 < n →
      exec (.creditWord q n) s = .next (s.setPort q
        { x with indications := { x.indications with creditError := true } })) ∧
    (∀ o : LinkOffer, x.training = .up → x.agreed = some o → 1 ≤ n → n ≤ 16 →
      exec (.creditWord q n) s = .next (s.setPort q
        (if x.credits + n ≤ o.buffers then { x with credits := x.credits + n }
         else { x with credits := o.buffers, indications := { x.indications with creditError := true } }))) ∧
    (x.training = .train ∨ x.training = .agree →
      exec (.creditWord q n) s = .next (s.setPort q { x with trainCount := 0, lastOffer := none }) ∧
      exec (.idleWord q) s = .next (s.setPort q { x with trainCount := 0, lastOffer := none })) ∧
    (x.training = .down ∨ x.training = .mismatch →
      exec (.creditWord q n) s = .next s ∧ exec (.idleWord q) s = .next s) ∧
    (x.training = .up → exec (.idleWord q) s = .next s) ∧
    (x.training = .up → 0 < x.owed →
      exec (.sendCredit q) s = .next (s.setPort q { x with owed := 0, sent := x.sent ++ [.credit x.owed] })) ∧
    (x.training ≠ .up ∨ x.owed = 0 → exec (.sendCredit q) s = .next s)

/-- R160, R161, R164: SEND_PACKET. A port in UP with a credit sends the head of its send queue, behind the CREDIT word
for what it owes, and lowers its credits by 1; a place freed in the M send queue gives the SLOT trigger. Without UP,
credits or a packet nothing is sent. That SEND_PACKET itself sends the CREDIT word first is inferred (log 17), the record
of what has been sent is the model's own (log 11), and when the SLOT trigger is taken is its choice (log 30). -/
def Obligations.SendingTakesTheHeadOfTheQueueForOneCredit : Prop :=
  ∀ (q : Port) (s : State), s.inReset = false →
    let x := s.port q
    (∀ (pkt : Packet) (rest : List Packet), x.training = .up → 0 < x.credits → x.tx = pkt :: rest →
      let y : PortState :=
        { x with
          tx := rest, credits := x.credits - 1, owed := 0
          sent := x.sent ++ (if 0 < x.owed then [.credit x.owed] else []) ++ [.packet pkt] }
      exec (.sendPacket q) s = .next
        (match q with
         | .c => { s with cPort := y }
         | .m => slotTrigger { s with mPort := y })) ∧
    (x.training ≠ .up ∨ x.credits = 0 ∨ x.tx = [] → exec (.sendPacket q) s = .next s)

/-- R161, R162: PACKET_RECEIVED. In UP the checks are made in order, and the first that fails latches its one
indication and owes a credit; a packet that passes them joins the receive buffer; one that comes while the buffer holds
16 latches CREDIT_ERROR and owes none. Outside UP it is discarded, and in TRAIN and AGREE it starts the count of three
again. A port that owes 16 credits returns them before one more falls due (log 28). The model's choices: a reception is
one event, with the buffer's fill at its end (log 12); a packet in TRAIN restarts the count as any other word does
(log 10); whether the check sequence is right is an operand (log 27). -/
def Obligations.AReceivedPacketArrivesOrIsDiscardedWithItsIndication : Prop :=
  ∀ (q : Port) (right : Bool) (pkt : Packet) (n : Nat) (s : State), s.inReset = false →
    let x := s.port q
    let discarded (i : Indications) : PortState :=
      { x with
        indications := i
        owed := if x.owed < 16 then x.owed + 1 else 1
        sent := if x.owed < 16 then x.sent else x.sent ++ [.credit x.owed] }
    (x.training = .up → 16 ≤ x.rx.length →
      exec (.packetReceived q right pkt) s = .next (s.setPort q
        { x with indications := { x.indications with creditError := true } })) ∧
    (x.training = .up → x.negotiated = some n → x.rx.length < 16 → right = false →
      exec (.packetReceived q right pkt) s =
        .next (s.setPort q (discarded { x.indications with checkError := true }))) ∧
    (x.training = .up → x.negotiated = some n → x.rx.length < 16 → right = true → MalformedAt pkt q n →
      exec (.packetReceived q right pkt) s =
        .next (s.setPort q (discarded { x.indications with malformed := true }))) ∧
    (x.training = .up → x.negotiated = some n → x.rx.length < 16 → right = true → ¬MalformedAt pkt q n →
      MisplacedAt pkt q s.straps.bid →
      exec (.packetReceived q right pkt) s =
        .next (s.setPort q (discarded { x.indications with misplaced := true }))) ∧
    (x.training = .up → x.negotiated = some n → x.rx.length < 16 → right = true → ¬MalformedAt pkt q n →
      ¬MisplacedAt pkt q s.straps.bid →
      exec (.packetReceived q right pkt) s = .next (s.setPort q { x with rx := x.rx ++ [pkt] })) ∧
    (x.training = .train ∨ x.training = .agree →
      exec (.packetReceived q right pkt) s = .next (s.setPort q { x with trainCount := 0, lastOffer := none })) ∧
    (x.training = .down ∨ x.training = .mismatch → exec (.packetReceived q right pkt) s = .next s)

/-- R169: a packet's bytes spell the packet. That the spare bits of the id bytes and the two spare bytes are sent as 0 and
not looked at is the model's choice (log 13). -/
def Obligations.APacketsBytesSpellThePacket : Prop :=
  ∀ pkt : Packet, pkt.wellFormed = true → packetOfBytes (packetBytes pkt) = some pkt

/-! ## Taking, placing, granting -/

/-- R163: the arbiter grants when a place of the C send queue is free or the C-port is not UP, and then the producer
with a claim that stands first in the rotation; and what each producer's claim is. That a reply is free to go when its
two counts are 0 is the model's own way to say R147 (log 20), and that a command out of turn does not take place is
inferred (log 21). -/
def Obligations.TheArbiterGrantsTheFirstClaimInRotation : Prop :=
  ∀ s : State,
    (∀ q : Producer, s.granted = some q ↔
      (s.cPort.training ≠ .up ∨ s.cPort.tx.length < 16) ∧ s.claim q = true ∧
        ∀ q' : Producer, s.claim q' = true → q.wait s.nextProducer ≤ q'.wait s.nextProducer) ∧
    (s.claim .admission = true ↔ s.cPort.rx ≠ [] ∧ ∀ a ∈ s.abortList, a.fromModeChange = false) ∧
    (s.claim .parkQueue = true ↔
      s.abortList ≠ [] ∨ ∃ it ∈ s.park, it.isLeaving = true ∨ it.expiryDue = true) ∧
    (s.claim .router = true ↔
      s.holdList ≠ [] ∨ s.mPort.rx ≠ [] ∨
        ∃ i : Fin 32, (s.slots[i]).state = .waiting ∧ (s.slots[i]).overdue = true ∧ (s.slots[i]).kind ≠ .confirm) ∧
    (s.claim .management = true ↔
      ∃ (r : Reply) (rest : List Reply), s.replies = r :: rest ∧ r.abortAhead = 0 ∧ r.holdAhead = 0) ∧
    (s.claim .alertCtl = true ↔ s.alert.due = true)

/-- R39, R161, R163, R59, R146, R32: the taking of a packet removes it from its buffer, owes a credit for it in UP and
moves the rotation on; the placing of a packet appends it to the C send queue, or discards it when the C-port is not
UP; an ANSWER and an MREPLY carry BID and the fields of R59 and R146. Nothing else changes. A port that owes 16 credits
returns them before one more falls due (log 28). -/
def Obligations.TakingAndPlacingTouchOnlyTheirPort : Prop :=
  ∀ s : State,
    let taken (x : PortState) : PortState :=
      if x.training = .up then
        { x with
          rx := x.rx.tail
          owed := if x.owed < 16 then x.owed + 1 else 1
          sent := if x.owed < 16 then x.sent else x.sent ++ [.credit x.owed] }
      else { x with rx := x.rx.tail }
    takeFromC s = { s with cPort := taken s.cPort, nextProducer := .parkQueue } ∧
    takeFromM s = { s with mPort := taken s.mPort, nextProducer := .management } ∧
    (∀ pkt, s.cPort.training = .up →
      placeC pkt s = { s with cPort := { s.cPort with tx := s.cPort.tx ++ [pkt] } }) ∧
    (∀ pkt, s.cPort.training ≠ .up → placeC pkt s = s) ∧
    (∀ dest tag status length data, answerPacket s dest tag status length data =
      { kind := .answer, source := s.straps.bid, dest := dest, tag := tag, status := status.code,
        length := length, address := 0, payload := data }) ∧
    (∀ (p : Packet) (code : Byte) (more : List Byte) (status : MgmtStatus) (results : List Byte),
      p.payload = code :: more → s.replied p status results = placeC
        { kind := .mreply, source := s.straps.bid, dest := p.source, tag := p.tag, status := 0, length := 0,
          address := 0, payload := code :: status.code :: results } (takeFromC s))

/-! ## Admission -/

/-- R4 to R6: where no two ACTIVE entries match the same pair of domain and card address, lookup finds the entry that
matches, and none when none does.
R7, R49: through an entry whose fields are in the ranges of R1, a request that lies wholly within the window goes
to memory base + (card address - card base), wholly within the memory range, with the offset kept bit for bit and the
high bits those of the memory base. -/
def Obligations.LookupFindsTheMatchAndTranslationStaysInside : Prop :=
  (∀ (s : State) (d : Fin 16) (a : Addr), s.DisjointLaw →
    (∀ i : Fin 64, lookup s d a = some i ↔ (s.windows[i]).Matches d a) ∧
    (lookup s d a = none ↔ ∀ i : Fin 64, ¬(s.windows[i]).Matches d a)) ∧
  (∀ (e : WindowEntry) (a : Addr) (length : Nat), e.valuesOk = true → e.cardBase.toNat ≤ a.toNat →
    a.toNat + length ≤ e.cardBase.toNat + 2 ^ e.sizeExp → 1 ≤ length →
    (e.translate a).toNat = e.memBase.toNat + (a.toNat - e.cardBase.toNat) ∧
    e.memBase.toNat ≤ (e.translate a).toNat ∧
    (e.translate a).toNat + length ≤ e.memBase.toNat + 2 ^ e.sizeExp ∧
    (e.translate a).toNat % 2 ^ e.sizeExp = a.toNat % 2 ^ e.sizeExp ∧
    (e.translate a).toNat / 2 ^ e.sizeExp = e.memBase.toNat / 2 ^ e.sizeExp)

/-- R47 to R52, R43 to R45, R61: the steps of the GUARD path in their order; the first that decides gives the outcome,
and the fault with its locus, source id, request kind and card address.
R46, R42, R61: the steps of the OPEN path in their order, and the one step of SHUT. That a request which needs a slot
parks SLOT in OPEN mode while the answer hold list holds an entry, also with the M-port not UP, follows the order of R46;
R78 and R108 say otherwise of the SLOT items of an M-port loss, and the choice between them is the model's (log 16). -/
def Obligations.TheAdmissionPathsStepsDecideInOrder : Prop :=
  (∀ (s : State) (r : Request) (behind : Bool), s.mode = .guardMode → s.DisjointLaw →
    let d := s.domains[sourceIndex r.source]
    let fault (kind : FaultKind) (locus : Locus) : FaultInfo :=
      { kind := kind, source := some r.source, locus := locus, reqKind := some r.kind, address := some r.address }
    let page : Locus := .page (BitVec.ofNat 28 (r.address.toNat / 4096))
    (d.valid = false → judge s r behind = .refuse .refused (fault .unknownSource .nowhere)) ∧
    (d.valid = true → behind = true → judge s r behind = .park .behind none) ∧
    (d.valid = true → behind = false → (∀ i : Fin 64, ¬(s.windows[i]).Matches d.domain r.address) →
      (d.missPolicy = .park → judge s r behind = .park .miss (some (fault .miss page))) ∧
      (d.missPolicy = .refuse → judge s r behind = .refuse .noWindow (fault .miss page))) ∧
    (∀ i : Fin 64, d.valid = true → behind = false → (s.windows[i]).Matches d.domain r.address →
      let e := s.windows[i]
      let limit := e.cardBase.toNat + 2 ^ e.sizeExp
      let last : Decision :=
        if s.mPort.training ≠ .up then .refuse .targetLost (fault .targetLost .nowhere)
        else if 16 ≤ s.mPort.tx.length
            ∨ ((r.kind ≠ .post ∨ e.delivery = .confirmed) ∧ (s.freeList = [] ∨ s.holdList ≠ [])) then
          .park .slot none
        else .forward (some i)
      (limit < r.address.toNat + r.length →
        judge s r behind = .refuse .denied (fault .crossing (.window i))) ∧
      (r.address.toNat + r.length ≤ limit → ¬e.rights.Grant d.sourceClass r.kind →
        judge s r behind = .refuse .denied (fault .rights (.window i))) ∧
      (∀ n, r.address.toNat + r.length ≤ limit → e.rights.Grant d.sourceClass r.kind →
        s.mPort.training = .up → s.mPort.negotiated = some n → n < r.length →
        judge s r behind = .refuse .denied (fault .oversize (.window i))) ∧
      (r.address.toNat + r.length ≤ limit → e.rights.Grant d.sourceClass r.kind →
        (s.mPort.training = .up → ∀ n, s.mPort.negotiated = some n → r.length ≤ n) →
        (e.meter = none → judge s r behind = last) ∧
        (∀ m, e.meter = some m → (s.meters[m]).state = .stopped → judge s r behind = last) ∧
        (∀ m, e.meter = some m → (s.meters[m]).state = .running →
          let x := s.meters[m]
          let cost := x.basis.costOf r.length
          judge s r behind =
            if x.budget < cost then .refuse .busy (fault .meterRefused (.window i))
            else if x.used + cost ≤ x.budget then last
            else if x.action = .hold then .park (.meter m) none
            else .refuse .busy (fault .meterRefused (.window i)))))) ∧
  (∀ (s : State) (r : Request) (behind : Bool),
    let fault (kind : FaultKind) (locus : Locus) : FaultInfo :=
      { kind := kind, source := some r.source, locus := locus, reqKind := some r.kind, address := some r.address }
    let page : Locus := .page (BitVec.ofNat 28 (r.address.toNat / 4096))
    (s.mode = .shutMode → judge s r behind = .refuse .refused (fault .shutRefused .nowhere)) ∧
    (s.mode = .openMode → behind = true → judge s r behind = .park .behind none) ∧
    (∀ n, s.mode = .openMode → behind = false → s.mPort.training = .up → s.mPort.negotiated = some n →
      n < r.length → judge s r behind = .refuse .denied (fault .oversize page)) ∧
    (s.mode = .openMode → behind = false →
      (s.mPort.training = .up → ∀ n, s.mPort.negotiated = some n → r.length ≤ n) →
      judge s r behind =
        if 16 ≤ s.mPort.tx.length ∨ (r.kind ≠ .post ∧ (s.freeList = [] ∨ s.holdList ≠ [])) then .park .slot none
        else if s.mPort.training ≠ .up then .refuse .targetLost (fault .targetLost .nowhere)
        else .forward none))

/-- R53, R54, R94, R95, R8, R10, R116: READ, WRITE, and POST through a CONFIRMED window, forwarded in GUARD. The
request that passes every check charges a RUNNING meter its cost, takes the slot at the head of the free list, raises
the window's two counts and is appended to the M send queue, translated, under its slot's downstream tag. Nothing
else changes.
R53, R54, R58, R10: POST through an AS_SENT window, forwarded in GUARD. It is charged, counted and appended to the
M send queue, translated, under tag 0; it takes no slot. Nothing else changes. -/
def Obligations.AGuardForwardIsChargedCountedAndSentTranslated : Prop :=
  (∀ (k : ReqKind) (s : State) (p : Packet) (i : Fin 64) (f : Fin 32) (rest : List (Fin 32)),
    s.DisjointLaw → s.Takes p → p.kind = k.packetKind → s.AdmitsGuard (requestOf k p) i →
    (k = .post → (s.windows[i]).delivery = .confirmed) → s.freeList = f :: rest → s.holdList = [] →
    let e := s.windows[i]
    exec k.command s = .next
      { takeFromC s with
        meters := match e.meter with
          | none => s.meters
          | some m =>
            if (s.meters[m]).state = .running then
              setAt s.meters m
                { s.meters[m] with used := (s.meters[m]).used + (s.meters[m]).basis.costOf p.length }
            else s.meters
        slots := setAt s.slots f
          { state := .waiting
            origin := p.source
            upTag := if k = .post then none else some p.tag
            kind := match k with
              | .read => .read
              | .write => .write
              | .post => .confirm
            window := some i
            length := p.length
            deadline := s.tick + BitVec.ofNat 32 s.answerTimeout
            overdue := false
            drainMark := false
            generation := (s.slots[f]).generation }
        freeList := rest
        windows := setAt s.windows i { e with inFlight := e.inFlight + 1, admissions := e.admissions + 1 }
        mPort :=
          { s.mPort with
            tx := s.mPort.tx ++
              [{ kind := if k = .read then .read else .write
                 source := p.source
                 dest := 0
                 tag := BitVec.ofNat 8 ((s.slots[f]).generation.toNat * 32 + f.val)
                 status := 0
                 length := p.length
                 address := e.memBase + (p.address - e.cardBase)
                 payload := p.payload }] } }) ∧
  (∀ (s : State) (p : Packet) (i : Fin 64), s.DisjointLaw → s.Takes p → p.kind = .post →
    s.AdmitsGuard (requestOf .post p) i → (s.windows[i]).delivery = .asSent →
    let e := s.windows[i]
    exec .post s = .next
      { takeFromC s with
        meters := match e.meter with
          | none => s.meters
          | some m =>
            if (s.meters[m]).state = .running then
              setAt s.meters m
                { s.meters[m] with used := (s.meters[m]).used + (s.meters[m]).basis.costOf p.length }
            else s.meters
        windows := setAt s.windows i { e with admissions := e.admissions + 1 }
        mPort :=
          { s.mPort with
            tx := s.mPort.tx ++
              [{ kind := .post, source := p.source, dest := 0, tag := 0, status := 0, length := p.length,
                 address := e.memBase + (p.address - e.cardBase), payload := p.payload }] } })

/-- R46, R11: forwarding in OPEN. A READ or WRITE takes the slot at the head of the free list, with no window, a POST
none; each is appended to the M send queue at its card address. No window, no meter and nothing else changes. -/
def Obligations.AnOpenForwardIsSentUntranslated : Prop :=
  ∀ (s : State) (p : Packet),
    (∀ (k : ReqKind) (f : Fin 32) (rest : List (Fin 32)), s.Takes p → p.kind = k.packetKind → k ≠ .post →
      s.AdmitsOpen (requestOf k p) → s.freeList = f :: rest → s.holdList = [] →
      exec k.command s = .next
        { takeFromC s with
          slots := setAt s.slots f
            { state := .waiting
              origin := p.source
              upTag := some p.tag
              kind := if k = .read then .read else .write
              window := none
              length := p.length
              deadline := s.tick + BitVec.ofNat 32 s.answerTimeout
              overdue := false
              drainMark := false
              generation := (s.slots[f]).generation }
          freeList := rest
          mPort :=
            { s.mPort with
              tx := s.mPort.tx ++
                [{ kind := if k = .read then .read else .write
                   source := p.source
                   dest := 0
                   tag := BitVec.ofNat 8 ((s.slots[f]).generation.toNat * 32 + f.val)
                   status := 0
                   length := p.length
                   address := p.address
                   payload := p.payload }] } }) ∧
    (s.Takes p → p.kind = .post → s.AdmitsOpen (requestOf .post p) →
      exec .post s = .next
        { takeFromC s with
          mPort :=
            { s.mPort with
              tx := s.mPort.tx ++
                [{ kind := .post, source := p.source, dest := 0, tag := 0, status := 0, length := p.length,
                   address := p.address, payload := p.payload }] } })

/-- R40, R56, R58, R59: READ, WRITE and POST that are not forwarded. One that a step refuses is answered with the
step's status, and then the step's fault is recorded; a POST is dropped instead of answered. One that a step parks joins
the tail of the park queue while it holds fewer than 16 items, and then the step's fault is recorded; else it is
answered BUSY, or dropped, and the step's fault and then PARK_FULL are recorded. The serial number is the model's own
(log 18). -/
def Obligations.ARequestNotForwardedIsAnsweredParkedOrDropped : Prop :=
  ∀ (k : ReqKind) (s : State) (p : Packet), s.Takes p → p.kind = k.packetKind →
    let r := requestOf k p
    let u := takeFromC s
    let decision := judge u r (s.park.any fun it => decide (it.req.source = p.source))
    let answered (status : AnswerStatus) : State :=
      if k = .post then u else placeC (answerPacket s p.source p.tag status p.length []) u
    (∀ status fault, decision = .refuse status fault →
      exec k.command s = .next (recordFault fault (answered status))) ∧
    (∀ reason fault, decision = .park reason fault → s.park.length < 16 →
      exec k.command s = .next (recordOpt fault
        { u with
          park := s.park ++
            [{ serial := nextSerial s, state := .parked reason, arrival := s.tick, expiryDue := false,
               req := { source := p.source, kind := k, tag := if k = .post then none else some p.tag,
                        address := p.address, length := p.length, data := p.payload } }] })) ∧
    (∀ reason fault, decision = .park reason fault → 16 ≤ s.park.length →
      exec k.command s = .next (recordFault
        { kind := .parkFull, source := some p.source, reqKind := some k, address := some p.address,
          locus := .page (BitVec.ofNat 28 (p.address.toNat / 4096)) }
        (recordOpt fault (answered .busy))))

/-- R55, R42: a request enters the M send queue in a step that ends in GUARD only if it lies wholly within an ACTIVE
entry that serves its source's domain and grants its kind to its source's class, at the translated address; in a step
that ends in SHUT nothing enters. -/
def Obligations.NothingEntersTheMSendQueueUnadmitted : Prop :=
  ∀ s t : State, step s = .next t → ∀ pkt ∈ t.mPort.tx,
    pkt ∈ s.mPort.tx ∨ t.mode = .openMode ∨ (t.mode = .guardMode ∧ t.Confines pkt)

/-! ## The park queue -/

/-- R74, R57, R84: one re-admission run of an item. Forwarded, the item leaves. Answered, it leaves with its ANSWER
placed and its fault then recorded, a POST dropped; a READ or WRITE that finds no place becomes LEAVING in its place,
with the decided answer. The places `used` that a POST's claim of the same event has used are not free (R83).
Parked, it keeps its place, arrival tick and mark, and takes the run's reason.
R78, R108: while the M-port is not UP a SLOT item is judged without regard to the answer hold list, and in OPEN mode,
with a free place and a free slot, is so answered TARGET_LOST. That this holds beside R46 and R106 is the model's choice
(log 16). -/
def Obligations.AReadmissionRunForwardsAnswersOrKeepsItsItem : Prop :=
  ∀ (s : State) (ahead after : List ParkItem) (it : ParkItem) (used : Nat),
    s.park = ahead ++ it :: after → (s.park.map ParkItem.serial).Nodup →
    let judged : State := if s.mPort.training ≠ .up ∧ it.state = .parked .slot then { s with holdList := [] } else s
    let decision := judge judged it.req (ahead.any fun x => decide (x.req.source = it.req.source))
    (s.mPort.training ≠ .up → it.state = .parked .slot → s.mode = .openMode →
      (∀ x ∈ ahead, x.req.source ≠ it.req.source) → s.mPort.tx.length < 16 → s.freeList ≠ [] →
      decision = .refuse .targetLost
        { kind := .targetLost, source := some it.req.source, locus := .nowhere, reqKind := some it.req.kind,
          address := some it.req.address }) ∧
    (∀ w, decision = .forward w →
      readmitOnce it s used = ({ forwardRequest w it.req s with park := ahead ++ after }, true)) ∧
    (∀ status fault, decision = .refuse status fault → it.req.kind = .post →
      readmitOnce it s used = ({ recordFault fault s with park := ahead ++ after }, true)) ∧
    (∀ status fault tag, decision = .refuse status fault → it.req.kind ≠ .post → it.req.tag = some tag →
      (s.cPort.training ≠ .up ∨ s.cPort.tx.length + used < 16) →
      readmitOnce it s used =
        ({ recordFault fault (placeC (answerPacket s it.req.source tag status it.req.length []) s) with
            park := ahead ++ after }, true)) ∧
    (∀ status fault, decision = .refuse status fault → it.req.kind ≠ .post →
      s.cPort.training = .up → 16 ≤ s.cPort.tx.length + used →
      readmitOnce it s used =
        ({ s with park := ahead ++ { it with state := .leaving status fault } :: after }, false)) ∧
    (∀ reason fault, decision = .park reason fault →
      readmitOnce it s used =
        (recordOpt fault { s with park := ahead ++ { it with state := .parked reason } :: after }, false))

/-- R75: the BEHIND trigger and its cascade. The trigger of a source re-admits its oldest remaining item when that item
is BEHIND, and does nothing otherwise; a re-admitted item that leaves gives the trigger of its source in its turn, and
one that stays ends the cascade; each run of the cascade finds the same places used (R83).
R73, R71, R81: a trigger. Its set is the items that wait for it when it is taken. They are re-admitted one after another
in queue order, each with its cascade run to its end, and an item that has left or no longer waits for the trigger when
its turn comes is passed over. Where no item waits, nothing changes; where one does, that item is re-admitted. Whatever
a trigger re-admits, the items that remain are in their order, with their requests and arrival ticks, and every LEAVING
item remains as it was.
R76, R77, R78: the MISS trigger, the METER trigger of meter m and the SLOT trigger are the triggers of these reasons.
The SLOT trigger is taken when it is given, or, where the model's input says so, is one more that is due and changes
nothing else (the model's choice, log 30). Items are told apart by the model's serial numbers (log 18). -/
def Obligations.TriggersReadmitTheirSetAndCascade : Prop :=
  ((∀ (src : SourceId) (s : State) (used : Nat), (∀ it ∈ s.park, it.req.source ≠ src) →
    behindTrigger src s used = s) ∧
  (∀ (src : SourceId) (s : State) (used : Nat) (ahead after : List ParkItem) (it : ParkItem),
    s.park = ahead ++ it :: after → (∀ x ∈ ahead, x.req.source ≠ src) → it.req.source = src →
    (it.state ≠ .parked .behind → behindTrigger src s used = s) ∧
    (it.state = .parked .behind → behindTrigger src s used = readmit s.park.length it.serial s used)) ∧
  (∀ (s : State) (it : ParkItem) (used : Nat), it ∈ s.park → (s.park.map ParkItem.serial).Nodup →
    readmit s.park.length it.serial s used =
      if (readmitOnce it s used).2 = true then behindTrigger it.req.source (readmitOnce it s used).1 used
      else (readmitOnce it s used).1)) ∧
  (∀ (hits : ParkReason → Bool) (s : State),
    let waits (it : ParkItem) : Bool := match it.state with
      | .parked r => hits r
      | .leaving _ _ => false
    trigger hits s = ((s.park.filter waits).map ParkItem.serial).foldl (fun u serial =>
      match u.park.find? fun it => decide (it.serial = serial) with
      | some it => if waits it = true then readmit u.park.length serial u else u
      | none => u) s) ∧
  (∀ (hits : ParkReason → Bool) (s : State), (s.park.map ParkItem.serial).Nodup →
    ((∀ it ∈ s.park, ∀ r, it.state = .parked r → hits r = false) → trigger hits s = s) ∧
    (∀ (ahead after : List ParkItem) (it : ParkItem) (r : ParkReason), s.park = ahead ++ it :: after →
      it.state = .parked r → hits r = true →
      (∀ x ∈ ahead ++ after, ∀ r', x.state = .parked r' → hits r' = false) →
      trigger hits s = readmit s.park.length it.serial s) ∧
    ((trigger hits s).park.map fun it => (it.serial, it.arrival, it.req)).Sublist
      (s.park.map fun it => (it.serial, it.arrival, it.req)) ∧
    (∀ it ∈ s.park, it.isLeaving = true → it ∈ (trigger hits s).park)) ∧
  (∀ s : State,
    missTrigger s = trigger (fun r => decide (r = .miss)) s ∧
    (∀ m : Fin 4, meterTrigger m s = trigger (fun r => decide (r = .meter m)) s) ∧
    (s.slotTriggerWaits = false → slotTrigger s = trigger (fun r => decide (r = .slot)) s) ∧
    (s.slotTriggerWaits = true → slotTrigger s = { s with slotTriggersDue := s.slotTriggersDue + 1 }))

/-- R80, R83, R72, R59: PARK_EXPIRY and LEAVING_ANSWER. The park queue, granted with an empty abort list, takes the
claim nearest the head. A marked PARKED item leaves answered EXPIRED, a POST dropped, and PARK_EXPIRED is recorded; a
LEAVING item leaves with its decided answer and fault. Each gives the BEHIND trigger. The claim of a POST uses
the place all the same, so an answer of that cascade does not find it free; that the place stands free when the event
is over is inferred (R163, log 35). -/
def Obligations.TheClaimNearestTheHeadLeavesTheParkQueue : Prop :=
  ∀ (s : State) (ahead after : List ParkItem) (it : ParkItem), s.Grants .parkQueue → s.abortList = [] →
    s.park = ahead ++ it :: after → (s.park.map ParkItem.serial).Nodup →
    (∀ x ∈ ahead, x.isParked = true ∧ x.expiryDue = false) →
    let u : State := { s with nextProducer := .router }
    let answered (status : AnswerStatus) : State :=
      match it.req.kind, it.req.tag with
      | .post, _ | _, none => u
      | _, some tag => placeC (answerPacket s it.req.source tag status it.req.length []) u
    let used : Nat := match it.req.kind with
      | .post => 1
      | .read | .write => 0
    (it.isParked = true → it.expiryDue = true →
      exec .parkExpiry s = .next (behindTrigger it.req.source
        { recordFault
            { kind := .parkExpired, source := some it.req.source, reqKind := some it.req.kind,
              locus := .page (BitVec.ofNat 28 (it.req.address.toNat / 4096)), address := some it.req.address }
            (answered .expired) with
          park := ahead ++ after } used) ∧
      exec .leavingAnswer s = .next s) ∧
    (∀ status fault, it.state = .leaving status fault →
      exec .leavingAnswer s = .next (behindTrigger it.req.source
        { recordFault fault (answered status) with park := ahead ++ after } used) ∧
      exec .parkExpiry s = .next s)

/-- R80, R87, R147: ABORT_LIST_PLACE and MREPLY_PLACE. The park queue, granted, places the head of the abort list as
ABORTED; the management unit, granted, places the head of its reply list. How many answers a reply still waits for is
the model's own count (log 20). -/
def Obligations.TheHeadsOfTheAbortAndReplyListsArePlaced : Prop :=
  ∀ s : State,
    (∀ (a : AbortEntry) (rest : List AbortEntry), s.Grants .parkQueue → s.abortList = a :: rest →
      exec .abortListPlace s = .next
        { placeC (answerPacket s a.dest a.tag .aborted a.length []) { s with nextProducer := .router } with
          abortList := rest
          replies := s.replies.map fun r => { r with abortAhead := r.abortAhead - 1 } }) ∧
    (∀ (r : Reply) (rest : List Reply), s.Grants .management → s.replies = r :: rest →
      exec .mreplyPlace s = .next
        { placeC r.packet { s with nextProducer := .alertCtl } with replies := rest })

/-! ## The outstanding table and the answer router -/

/-- R104, R105, R9, R23, R66: the freeing of a slot. It becomes FREE with its generation advanced and its marks clear
and joins the tail of the free list; its window's count falls, and a DRAINING window whose count reaches 0 becomes FREE;
a RETIRE with no DRAINING entry left and a SET_MODE with no marked slot left complete, and their OK reply joins the
reply list unless the C-port is not UP. Nothing else changes. That the deferred reply of a SET_MODE waits for none of the
request's ABORTED answers is the model's choice (log 32). -/
def Obligations.FreeingASlotLowersItsWindowAndMayEndALongOperation : Prop :=
  ∀ (i : Fin 32) (s : State),
    let t := freeSlot i s
    let listed (src : SourceId) (tag : Tag) (code : Byte) (results : List Byte) : List Reply :=
      if s.cUp then
        s.replies ++ [{ packet := mreplyPacket s src tag code .ok results, abortAhead := 0, holdAhead := 0 }]
      else s.replies
    t = { s with slots := t.slots, windows := t.windows, freeList := s.freeList ++ [i], longOp := t.longOp,
                 replies := t.replies } ∧
    t.slots = setAt s.slots i
      { s.slots[i] with state := .free, generation := (s.slots[i]).generation + 1, overdue := false,
                        drainMark := false } ∧
    ((s.slots[i]).window = none → t.windows = s.windows) ∧
    (∀ w, (s.slots[i]).window = some w → t.windows = setAt s.windows w
      { s.windows[w] with
        inFlight := (s.windows[w]).inFlight - 1
        state := if (s.windows[w]).state = .draining ∧ (s.windows[w]).inFlight ≤ 1 then .free
          else (s.windows[w]).state }) ∧
    (s.longOp = .idle → t.longOp = .idle ∧ t.replies = s.replies) ∧
    (∀ src tag retired widened, s.longOp = .retire src tag retired widened →
      ((∃ j : Fin 64, (t.windows[j]).state = .draining) → t.longOp = s.longOp ∧ t.replies = s.replies) ∧
      ((∀ j : Fin 64, (t.windows[j]).state ≠ .draining) →
        t.longOp = .idle ∧ t.replies = listed src tag 0x09 [BitVec.ofNat 8 retired, flagByte widened])) ∧
    (∀ src tag oldMode marked, s.longOp = .setMode src tag oldMode marked →
      ((∃ j : Fin 32, (t.slots[j]).drainMark = true) → t.longOp = s.longOp ∧ t.replies = s.replies) ∧
      ((∀ j : Fin 32, (t.slots[j]).drainMark = false) →
        t.longOp = .idle ∧
          t.replies = listed src tag 0x0A [BitVec.ofNat 8 oldMode.code, BitVec.ofNat 8 marked]))

/-- R23, R66, R148, R149: RETIRE_COMPLETE and SET_MODE_COMPLETE. Each ends the long operation of its kind when nothing
drains any longer, and lists its OK reply, or discards it when the C-port is not UP. The event that frees the last slot
takes the completion with it (log 6). That the deferred reply of a SET_MODE waits for none of the request's ABORTED
answers is the model's choice (log 32). -/
def Obligations.ADrainedLongOperationEndsWithItsReply : Prop :=
  ∀ s : State, s.inReset = false →
    let listed (src : SourceId) (tag : Tag) (code : Byte) (results : List Byte) : List Reply :=
      if s.cUp then
        s.replies ++ [{ packet := mreplyPacket s src tag code .ok results, abortAhead := 0, holdAhead := 0 }]
      else s.replies
    (∀ src tag retired widened, s.longOp = .retire src tag retired widened →
      (∀ j : Fin 64, (s.windows[j]).state ≠ .draining) →
      exec .retireComplete s = .next
        { s with longOp := .idle, replies := listed src tag 0x09 [BitVec.ofNat 8 retired, flagByte widened] }) ∧
    (∀ src tag oldMode marked, s.longOp = .setMode src tag oldMode marked →
      (∀ j : Fin 32, (s.slots[j]).drainMark = false) →
      exec .setModeComplete s = .next
        { s with
          longOp := .idle
          replies := listed src tag 0x0A [BitVec.ofNat 8 oldMode.code, BitVec.ofNat 8 marked] }) ∧
    ((s.longOp.isRetire = false ∨ ∃ j : Fin 64, (s.windows[j]).state = .draining) →
      exec .retireComplete s = .next s) ∧
    ((s.longOp.isSetMode = false ∨ ∃ j : Fin 32, (s.slots[j]).drainMark = true) →
      exec .setModeComplete s = .next s)

/-- R98 to R101, R107: ANSWER of a tag that matches its WAITING slot. A READ slot is answered OK with the data, or
TARGET_ERR: for FAIL, for data of another length (with BAD_ANSWER) and for data above the C-port's payload. A WRITE slot
is answered OK or TARGET_ERR. A CONFIRM slot is not answered, and FAIL records TARGET_FAULT. The slot is then freed, and
the SLOT trigger follows; that the next answer may be taken before a trigger that waits is the model's choice (log 30).
R99, R107: ANSWER of a tag whose slot is not WAITING or is of another generation. It is discarded with LATE_ANSWER
and the tag as locus; no slot changes, and nothing is sent. -/
def Obligations.AnAnswerIsRoutedByItsSlotOrDiscardedAsLate : Prop :=
  (∀ (s : State) (pkt : Packet) (rest : List Packet) (i : Fin 32) (tag : Tag), s.Grants .router →
    s.holdList = [] → firstOverdue s = none → s.mPort.rx = pkt :: rest → pkt.kind = .answer →
    i.val = pkt.tag.toNat % 32 → (s.slots[i]).state = .waiting →
    (s.slots[i]).generation.toNat = pkt.tag.toNat / 32 →
    let x := s.slots[i]
    let fault (kind : FaultKind) (req : ReqKind) : FaultInfo :=
      { kind := kind, source := some x.origin, reqKind := some req, address := none,
        locus := match x.window with
          | some w => .window w
          | none => .nowhere }
    let answered (status : AnswerStatus) (data : List Byte) : State :=
      placeC (answerPacket s x.origin tag status x.length data) (takeFromM s)
    let ends (u : State) : Outcome := .next (slotTrigger (freeSlot i u))
    (x.kind = .read → x.upTag = some tag → pkt.status ≠ 0 →
      exec .answer s = ends (answered .targetErr [])) ∧
    (x.kind = .read → x.upTag = some tag → pkt.status = 0 → pkt.payload.length ≠ x.length →
      exec .answer s = ends (recordFault (fault .badAnswer .read) (answered .targetErr []))) ∧
    (x.kind = .read → x.upTag = some tag → pkt.status = 0 → pkt.payload.length = x.length →
      (∀ n, s.cPort.negotiated = some n → x.length ≤ n) →
      exec .answer s = ends (answered .ok pkt.payload)) ∧
    (∀ n, x.kind = .read → x.upTag = some tag → pkt.status = 0 → pkt.payload.length = x.length →
      s.cPort.negotiated = some n → n < x.length → exec .answer s = ends (answered .targetErr [])) ∧
    (x.kind = .write → x.upTag = some tag →
      exec .answer s = ends (answered (if pkt.status = 0 then .ok else .targetErr) [])) ∧
    (x.kind = .confirm → pkt.status = 0 → exec .answer s = ends (takeFromM s)) ∧
    (x.kind = .confirm → pkt.status ≠ 0 →
      exec .answer s = ends (recordFault (fault .targetFault .post) (takeFromM s)))) ∧
  (∀ (s : State) (pkt : Packet) (rest : List Packet) (i : Fin 32), s.Grants .router →
    s.holdList = [] → firstOverdue s = none → s.mPort.rx = pkt :: rest → pkt.kind = .answer →
    i.val = pkt.tag.toNat % 32 →
    ((s.slots[i]).state ≠ .waiting ∨ (s.slots[i]).generation.toNat ≠ pkt.tag.toNat / 32) →
    exec .answer s = .next (recordFault
      { kind := .lateAnswer, source := none, locus := .downTag pkt.tag, reqKind := none, address := none }
      (takeFromM s)))

/-- R97, R107: DEADLINE_EXPIRY. The router, granted with an empty hold list, takes the expiry of the overdue READ or
WRITE slot that became overdue first, of the lower index on the same tick: it is answered TIMEOUT, ANSWER_TIMEOUT is
recorded, the slot is freed, and the SLOT trigger follows. Which slot became overdue first is said by the model's own
count of the ticks since (log 15).
R106: HOLD_LIST_PLACE. The router, granted, places the head of the answer hold list under its status, and each listed
reply waits for one held answer fewer, by the model's own count (log 20); the list's emptying gives the SLOT trigger. -/
def Obligations.TheRouterPlacesExpiriesAndHeldAnswers : Prop :=
  (∀ (s : State) (i : Fin 32),
    let overdue (j : Fin 32) : Prop :=
      (s.slots[j]).state = .waiting ∧ (s.slots[j]).overdue = true ∧ (s.slots[j]).kind ≠ .confirm
    let since (j : Fin 32) : Nat := (s.slots[j]).overdueFor
    (firstOverdue s = some i ↔
      overdue i ∧ ∀ j, overdue j → j ≠ i → since j < since i ∨ (since j = since i ∧ i.val < j.val)) ∧
    (∀ tag, s.Grants .router → s.holdList = [] → firstOverdue s = some i → (s.slots[i]).upTag = some tag →
      exec .deadlineExpiry s = .next (slotTrigger (freeSlot i (recordFault
        { kind := .answerTimeout, source := some (s.slots[i]).origin, address := none
          reqKind := some (if (s.slots[i]).kind = .read then .read else .write)
          locus := match (s.slots[i]).window with
            | some w => .window w
            | none => .nowhere }
        (placeC (answerPacket s (s.slots[i]).origin tag .timeout (s.slots[i]).length [])
          { s with nextProducer := .management })))))) ∧
  (∀ (s : State) (h : HoldEntry) (rest : List HoldEntry), s.Grants .router → s.holdList = h :: rest →
    let u : State :=
      { placeC (answerPacket s h.dest h.tag h.status h.length []) { s with nextProducer := .management } with
        holdList := rest
        replies := s.replies.map fun r => { r with holdAhead := r.holdAhead - 1 } }
    exec .holdListPlace s = .next (if rest = [] then slotTrigger u else u))

/-! ## The fault log and the alert -/

/-- R128, R130: the four cases of a recording, and whether it is an alert condition.
R128, R139: a fault handed to the log changes the log, at the current tick, and on a condition the alert
controller, and nothing else. A condition makes an ALERT due while the mask is clear and the C-port is UP, is merged
with one that is due, and is held pending otherwise. -/
def Obligations.ARecordingFollowsTheFourCasesAndTheAlertsEdges : Prop :=
  (∀ (l : FaultLog) (f : FaultInfo) (now : Tick),
    let holds (i : Fin 16) : Prop := (l.records[i]).pending = true ∧ (l.records[i]).info.kind = f.kind ∧
      (l.records[i]).info.source = f.source ∧ (l.records[i]).info.locus = f.locus
    (∀ i : Fin 16, holds i → (∀ j : Fin 16, holds j → j = i) →
      l.record f now =
        ({ l with
            records := setAt l.records i
              { l.records[i] with
                repeatCount := if (l.records[i]).repeatCount < 255 then (l.records[i]).repeatCount + 1
                  else (l.records[i]).repeatCount } }, false)) ∧
    ((∀ i, ¬holds i) → l.overflow = true → l.record f now = (l, false)) ∧
    ((∀ i, ¬holds i) → l.overflow = false → (l.records[l.writePos]).pending = true →
      l.record f now = ({ l with overflow := true }, true)) ∧
    ((∀ i, ¬holds i) → l.overflow = false → (l.records[l.writePos]).pending = false →
      l.record f now =
        ({ l with
            records := setAt l.records l.writePos
              { pending := true, info := f, firstTick := now, repeatCount := 0 }
            writePos := l.writePos + 1 },
          decide (∀ i : Fin 16, (l.records[i]).pending = false)))) ∧
  (∀ (f : FaultInfo) (s : State),
    recordFault f s =
      { s with
        log := (s.log.record f s.tick).1
        alert :=
          if (s.log.record f s.tick).2 = false then s.alert
          else if s.alert.due = true then { s.alert with pending := false }
          else if s.alert.mask = false ∧ s.cPort.training = .up then { s.alert with pending := false, due := true }
          else { s.alert with pending := true } })

/-- R142, R169: ALERT. The alert controller, granted, places an ALERT with a snapshot of the log and the current tick,
to the alert destination from BID, and alert due is cleared. -/
def Obligations.ADueAlertIsPlacedWithASnapshotOfTheLog : Prop :=
  ∀ s : State, s.Grants .alertCtl →
    exec .alert s = .next
      { placeC
          { kind := .alert, source := s.straps.bid, dest := s.alert.dest, tag := 0, status := 0, length := 0,
            address := 0,
            payload :=
              [BitVec.ofNat 8 (countTable FaultRecord.pending s.log.records)]
                ++ (match s.log.firstPending with
                    | some i => [BitVec.ofNat 8 i.val]
                    | none => [0xFF])
                ++ [flagByte s.log.overflow] ++ leBytes 4 s.tick.toNat }
          { s with nextProducer := .admission } with
        alert := { s.alert with due := false } }

/-! ## Management: refusals -/

/-- R33, R144 check 1: who may manage the bridge, and DENIED with MGMT_DENIED for every request of anyone else, whatever
the request; it changes nothing more. -/
def Obligations.ARequestOfAnUnpermittedSourceIsDenied : Prop :=
  (∀ (s : State) (src : SourceId), permitted s src = true ↔
    src = s.straps.msrc ∨
      ((s.domains[sourceIndex src]).valid = true ∧ (s.domains[sourceIndex src]).mayManage = true)) ∧
  (∀ (s : State) (p : Packet), s.Takes p → p.kind = .mreq → permitted s p.source = false →
    exec (mreqRow p.payload).command s = .next (recordFault
      { kind := .mgmtDenied, source := some p.source, locus := .nowhere, reqKind := none, address := none }
      (s.replied p .denied [])))

/-- R144 checks 2 and 3: an unknown request code, and a payload of another length than the one its code has, are answered
BAD_REQUEST and change nothing. For SET_SETTING the length depends on the item, no second byte is BAD_REQUEST, and an
item code above 7 is BAD_VALUE. That the row SET_SETTING answers an item code that names TICK, MODE or no item, and the
rows RETIRE_ENTRY and METER_RUN a request without a scope or action byte, is the model's choice (log 8). -/
def Obligations.AMalformedRequestIsBadRequest : Prop :=
  ∀ (s : State) (p : Packet), s.Asks p p.payload →
    (∀ (c : Byte) (more : List Byte), p.payload = c :: more → (c.toNat = 0 ∨ 0x11 < c.toNat) →
      exec .badRequest s = .next (s.replied p .badRequest [])) ∧
    (∀ (row : MgmtRow) (n : Nat),
      (row, n) ∈ [(MgmtRow.identify, 1), (.getSetting, 2), (.setMeterSetting, 9), (.getDomain, 2), (.setDomain, 7),
        (.loadWindow, 17), (.widenWindow, 3), (.readWindow, 2)]
      ++ [(.retireEntry, 15), (.retireRange, 15), (.retireDomain, 15), (.retireAll, 15), (.setMode, 2),
        (.meterRun, 3), (.meterStop, 3), (.meterRestart, 3)]
      ++ [(.readFault, 2), (.releaseFault, 2), (.clearOverflow, 1), (.faultSummary, 1), (.portStatus, 2),
        (.resetWarm, 2)] →
      mreqRow p.payload = row → p.payload.length ≠ n →
      exec row.command s = .next (s.replied p .badRequest [])) ∧
    (p.payload = [0x03] → exec .setSetting s = .next (s.replied p .badRequest [])) ∧
    (∀ (item : Byte) (more : List Byte), p.payload = 0x03 :: item :: more →
      (item.toNat ≤ 1 → more.length ≠ 2 → exec .setSetting s = .next (s.replied p .badRequest [])) ∧
      (2 ≤ item.toNat → item.toNat ≤ 3 → more.length ≠ 1 →
        exec .setSetting s = .next (s.replied p .badRequest [])) ∧
      (7 < item.toNat → exec .setSetting s = .next (s.replied p .badValue [])))

/-- R144 check 4: operands outside their ranges, and codes that name no value, are answered BAD_VALUE and change
nothing (R12, R16, R18, R19, R34, R36, R63, R118, R121, R133, R134, R152, R154, R168, R156). That the row RETIRE_ENTRY
answers a scope above 3 and the row METER_RUN an action above 2 is the model's choice (log 8), as is that a rights
bit above bit 2 comes before WIDEN_WINDOW's NOT_ACTIVE (log 34). -/
def Obligations.AnOperandOutOfRangeIsBadValue : Prop :=
  ∀ (s : State) (p : Packet), s.Asks p p.payload →
    let byte (i : Nat) : Nat := byteAt p.payload i
    let badValue (row : MgmtRow) : Prop := exec row.command s = .next (s.replied p .badValue [])
    let is (row : MgmtRow) (n : Nat) : Prop := mreqRow p.payload = row ∧ p.payload.length = n
    (is .getSetting 2 → 9 < byte 1 → badValue .getSetting) ∧
    (is .setSetting 4 → byte 1 = 0 → fieldAt p.payload 2 2 = 0 → badValue .setSetting) ∧
    (is .setSetting 4 → byte 1 = 1 → fieldAt p.payload 2 2 < 16 → badValue .setSetting) ∧
    (is .setSetting 3 → byte 1 = 2 → 1 < byte 2 → badValue .setSetting) ∧
    (is .setSetting 3 → byte 1 = 3 → 63 < byte 2 → badValue .setSetting) ∧
    (is .setMeterSetting 9 → (1 < byte 2 ∨ fieldAt p.payload 3 2 = 0 ∨ 1 < byte 7 ∨ 1 < byte 8) →
      badValue .setMeterSetting) ∧
    (is .getDomain 2 → 63 < byte 1 → badValue .getDomain) ∧
    (is .setDomain 7 → (63 < byte 1 ∨ 1 < byte 2 ∨ 15 < byte 3 ∨ 1 < byte 4 ∨ 1 < byte 5 ∨ 1 < byte 6) →
      badValue .setDomain) ∧
    (is .loadWindow 17 →
      (63 < byte 1 ∨ 16 < byte 2 ∨ byte 8 < 12 ∨ 36 < byte 8
        ∨ fieldAt p.payload 3 5 % 2 ^ byte 8 ≠ 0 ∨ fieldAt p.payload 9 5 % 2 ^ byte 8 ≠ 0
        ∨ 2 ^ 40 < fieldAt p.payload 3 5 + 2 ^ byte 8 ∨ 2 ^ 40 < fieldAt p.payload 9 5 + 2 ^ byte 8
        ∨ 7 < byte 14 ∨ 1 < byte 15 ∨ (3 < byte 16 ∧ byte 16 ≠ 255)) →
      badValue .loadWindow) ∧
    (is .widenWindow 3 → (63 < byte 1 ∨ 7 < byte 2) → badValue .widenWindow) ∧
    (is .readWindow 2 → 63 < byte 1 → badValue .readWindow) ∧
    (is .retireEntry 15 → s.longOp = .idle → (3 < byte 1 ∨ 63 < byte 2) → badValue .retireEntry) ∧
    (is .retireRange 15 → s.longOp = .idle →
      (16 < byte 3 ∨ fieldAt p.payload 9 6 = 0 ∨ 2 ^ 40 < fieldAt p.payload 4 5 + fieldAt p.payload 9 6) →
      badValue .retireRange) ∧
    (is .retireDomain 15 → s.longOp = .idle → 15 < byte 3 → badValue .retireDomain) ∧
    (is .setMode 2 → 2 < byte 1 → badValue .setMode) ∧
    (is .meterRun 3 → (3 < byte 1 ∨ 2 < byte 2) → badValue .meterRun) ∧
    (is .meterStop 3 → 3 < byte 1 → badValue .meterStop) ∧
    (is .meterRestart 3 → 3 < byte 1 → badValue .meterRestart) ∧
    (is .readFault 2 → 15 < byte 1 → badValue .readFault) ∧
    (is .releaseFault 2 → 15 < byte 1 → badValue .releaseFault) ∧
    (is .portStatus 2 → 1 < byte 1 → badValue .portStatus) ∧
    (is .resetWarm 2 → byte 1 ≠ 1 → badValue .resetWarm)

/-! ## Management: the requests -/

/-- R153: IDENTIFY is answered OK with the identity record and the straps sampled at the release of RST_N, and changes
nothing; no command but a power-on reset samples the straps. -/
def Obligations.IdentifyReturnsTheIdentityAndTheStraps : Prop :=
  (∀ (s : State) (p : Packet), s.Asks p [0x01] →
    exec .identify s = .next (s.replied p .ok
      ([0x17, 0x2D, 0x40, 0x64, 1, 64, 32, 16, 16, 4, 0x00, 0x01, s.straps.msrc.setWidth 8,
        (match s.straps.smode with
         | .startOpen => 0
         | .startShut => 2), s.straps.bid.setWidth 8]))) ∧
  (∀ (straps : Straps) (s : State), ∃ t, exec (.powerOnReset straps) s = .next t ∧ t.straps = straps) ∧
  (∀ (c : Instr) (s t : State), exec c s = .next t → (∀ straps, c ≠ .powerOnReset straps) → t.straps = s.straps)

/-- R18, R36, R120, R133, R136, R150, R152, R156: the reading requests return what they name as it stands, and change
nothing: a setting, a domain record, a window entry, a fault record, the log's summary.
R132: the first pending index is that of the first pending record met scanning forward from the write position, and is
absent when no record is pending. That locus none is sent with the number FFFFFFFFh is the model's choice (log 19). -/
def Obligations.TheReadingRequestsReturnTheStateAsItStands : Prop :=
  ∀ (s : State) (p : Packet),
    (s.Asks p [0x02, 0] → exec .getSetting s = .next (s.replied p .ok (0 :: leBytes 2 s.parkLimit))) ∧
    (s.Asks p [0x02, 1] → exec .getSetting s = .next (s.replied p .ok (1 :: leBytes 2 s.answerTimeout))) ∧
    (s.Asks p [0x02, 2] → exec .getSetting s = .next (s.replied p .ok [2, flagByte s.alert.mask])) ∧
    (s.Asks p [0x02, 3] → exec .getSetting s = .next (s.replied p .ok [3, s.alert.dest.setWidth 8])) ∧
    (∀ m : Fin 4, s.Asks p [0x02, BitVec.ofNat 8 (4 + m.val)] →
      let x := s.meters[m]
      exec .getSetting s = .next (s.replied p .ok
        ([BitVec.ofNat 8 (4 + m.val), BitVec.ofNat 8 x.state.code, BitVec.ofNat 8 x.basis.code]
          ++ leBytes 2 x.period ++ leBytes 2 x.budget
          ++ [BitVec.ofNat 8 x.action.code, flagByte x.buffered, flagByte x.next.isSome]
          ++ (match x.next with
              | some n => leBytes 2 n.period ++ leBytes 2 n.budget
              | none => [0xFF, 0xFF, 0xFF, 0xFF])
          ++ leBytes 2 x.periodCount ++ leBytes 2 x.used))) ∧
    (s.Asks p [0x02, 8] → exec .getSetting s = .next (s.replied p .ok (8 :: leBytes 4 s.tick.toNat))) ∧
    (s.Asks p [0x02, 9] → exec .getSetting s = .next (s.replied p .ok [9, BitVec.ofNat 8 s.mode.code])) ∧
    (∀ i : Fin 64, s.Asks p [0x04, BitVec.ofNat 8 i.val] →
      let d := s.domains[i]
      exec .getDomain s = .next (s.replied p .ok
        [BitVec.ofNat 8 i.val, flagByte d.valid, BitVec.ofNat 8 d.domain.val, BitVec.ofNat 8 d.sourceClass.code,
          BitVec.ofNat 8 d.missPolicy.code, flagByte d.mayManage])) ∧
    (∀ i : Fin 64, s.Asks p [0x08, BitVec.ofNat 8 i.val] →
      let e := s.windows[i]
      exec .readWindow s = .next (s.replied p .ok
        ([BitVec.ofNat 8 i.val, BitVec.ofNat 8 e.state.code, BitVec.ofNat 8 e.domain.code]
          ++ leBytes 5 e.cardBase.toNat ++ [BitVec.ofNat 8 e.sizeExp] ++ leBytes 5 e.memBase.toNat
          ++ [BitVec.ofNat 8 e.rights.code, BitVec.ofNat 8 e.delivery.code]
          ++ (match e.meter with
              | some m => [BitVec.ofNat 8 m.val]
              | none => [0xFF])
          ++ [BitVec.ofNat 8 e.inFlight] ++ leBytes 4 e.admissions.toNat))) ∧
    (∀ i : Fin 16, s.Asks p [0x0C, BitVec.ofNat 8 i.val] →
      let x := s.log.records[i]
      let kinds : List FaultKind := [.noFault, .unknownSource, .shutRefused, .miss, .crossing, .rights, .oversize,
        .meterRefused, .parkFull, .parkExpired, .answerTimeout, .badAnswer, .targetFault, .lateAnswer, .targetLost,
        .mgmtDenied]
      exec .readFault s = .next (s.replied p .ok
        ([BitVec.ofNat 8 i.val, flagByte x.pending, BitVec.ofNat 8 (kinds.idxOf x.info.kind)]
          ++ (match x.info.source with
              | some src => [src.setWidth 8]
              | none => [0xFF])
          ++ (match x.info.locus with
              | .nowhere => [0, 0xFF, 0xFF, 0xFF, 0xFF]
              | .window j => 1 :: leBytes 4 j.val
              | .page q => 2 :: leBytes 4 q.toNat
              | .downTag t => 3 :: leBytes 4 t.toNat)
          ++ (match x.info.reqKind with
              | some .read => [0]
              | some .write => [1]
              | some .post => [2]
              | none => [0xFF])
          ++ (match x.info.address with
              | some a => leBytes 5 a.toNat
              | none => [0xFF, 0xFF, 0xFF, 0xFF, 0xFF])
          ++ leBytes 4 x.firstTick.toNat ++ [BitVec.ofNat 8 x.repeatCount]))) ∧
    (let behind (i : Fin 16) : Nat := (i.val + 16 - s.log.writePos.val) % 16
     (∀ i : Fin 16, s.log.firstPending = some i ↔ (s.log.records[i]).pending = true ∧
        ∀ j : Fin 16, (s.log.records[j]).pending = true → behind i ≤ behind j) ∧
     (s.log.firstPending = none ↔ ∀ i : Fin 16, (s.log.records[i]).pending = false)) ∧
    (s.Asks p [0x0F] → exec .faultSummary s = .next (s.replied p .ok
      ([BitVec.ofNat 8 (countTable FaultRecord.pending s.log.records)]
        ++ (match s.log.firstPending with
            | some i => [BitVec.ofNat 8 i.val]
            | none => [0xFF])
        ++ [flagByte s.log.overflow, BitVec.ofNat 8 s.log.writePos.val])))

/-- R152, R85, R96, R138, R140: SET_SETTING of PARK_LIMIT, ANSWER_TIMEOUT, ALERT_MASK and ALERT_DEST. The value is
written and the reply carries it. A new park limit marks at once the PARKED items that reach it; a new mask releases a
pending alert or withdraws a due one, and the value already held changes nothing; a new timeout changes no slot. That a
park limit equal to the one held marks the items that reach it too is the model's choice (log 36). -/
def Obligations.SetSettingWritesOneItemAndActsAtOnce : Prop :=
  ∀ (s : State) (p : Packet) (v : Nat),
    (s.Asks p (0x03 :: 0 :: leBytes 2 v) → 1 ≤ v → v ≤ 65535 →
      exec .setSetting s = .next
        { s.replied p .ok (0 :: leBytes 2 v) with
          parkLimit := v
          park := s.park.map fun it =>
            if it.isParked = true ∧ v ≤ (s.tick - it.arrival).toNat then { it with expiryDue := true } else it }) ∧
    (s.Asks p (0x03 :: 1 :: leBytes 2 v) → 16 ≤ v → v ≤ 65535 →
      exec .setSetting s = .next { s.replied p .ok (1 :: leBytes 2 v) with answerTimeout := v }) ∧
    (s.Asks p [0x03, 2, 1] →
      exec .setSetting s = .next
        { s.replied p .ok [2, 1] with
          alert := if s.alert.mask = false ∧ s.alert.due = true then
              { s.alert with mask := true, due := false, pending := true }
            else { s.alert with mask := true } }) ∧
    (s.Asks p [0x03, 2, 0] →
      exec .setSetting s = .next
        { s.replied p .ok [2, 0] with
          alert := if s.alert.mask = true ∧ s.alert.pending = true ∧ s.cPort.training = .up then
              { s.alert with mask := false, due := true, pending := false }
            else { s.alert with mask := false } }) ∧
    (s.Asks p [0x03, 3, BitVec.ofNat 8 v] → v ≤ 63 →
      exec .setSetting s = .next
        { s.replied p .ok [3, BitVec.ofNat 8 v] with alert := { s.alert with dest := BitVec.ofNat 6 v } })

/-- R118 to R120: SET_SETTING of a meter. Buffered, the basis and the action change and the period and budget wait as the
next values, with no trigger. Unbuffered, they apply at once and waiting next values go; a period count at or above the
new period starts a fresh period, and the METER trigger follows the reply. The tick whose rollover is due counts among
those reached (log 5). That settings equal to those held are written so too, where R152 says that a value already held
changes nothing, is the model's choice (log 36). -/
def Obligations.SetMeterSettingAppliesOrBuffersPeriodAndBudget : Prop :=
  ∀ (s : State) (p : Packet) (m : Fin 4) (basis : Basis) (period budget : Nat) (action : MeterAction)
    (buffered : Bool), 1 ≤ period → period ≤ 65535 → budget ≤ 65535 →
    s.Asks p ([0x03, BitVec.ofNat 8 (4 + m.val), BitVec.ofNat 8 basis.code] ++ leBytes 2 period ++ leBytes 2 budget
      ++ [BitVec.ofNat 8 action.code, flagByte buffered]) →
    let x := s.meters[m]
    let reached := x.periodCount + if x.rolloverDue then 1 else 0
    let answered (y : Meter) : State :=
      { s.replied p .ok (BitVec.ofNat 8 (4 + m.val) :: y.bytes) with meters := setAt s.meters m y }
    (buffered = true →
      exec .setMeterSetting s = .next (answered
        { x with basis := basis, action := action, buffered := true,
                 next := some { period := period, budget := budget } })) ∧
    (buffered = false → reached < period →
      exec .setMeterSetting s = .next (answered
        { x with basis := basis, action := action, buffered := false, next := none, period := period,
                 budget := budget, periodCount := reached, rolloverDue := false })) ∧
    (buffered = false → period ≤ reached →
      exec .setMeterSetting s = .next (meterTrigger m (answered
        { x with basis := basis, action := action, buffered := false, next := none, period := period,
                 budget := budget, periodCount := 0, used := 0, rolloverDue := false })))

/-- R121 to R123: METER_RUN, METER_STOP and METER_RESTART. RUN makes the meter RUNNING with its counts and gives no
trigger; STOP makes it STOPPED with its counts; RESTART clears the counts and makes waiting next values current. The
reply carries the meter's record after the change, and STOP and RESTART then give the METER trigger. That a STOP or
RESTART clears the mark of a due rollover is the model's choice (log 5). -/
def Obligations.MeterControlRunsStopsAndRestarts : Prop :=
  ∀ (s : State) (p : Packet) (m : Fin 4),
    let x := s.meters[m]
    let answered (y : Meter) : State := { s.replied p .ok y.bytes with meters := setAt s.meters m y }
    (s.Asks p [0x0B, BitVec.ofNat 8 m.val, 0] →
      exec .meterRun s = .next (answered { x with state := .running })) ∧
    (s.Asks p [0x0B, BitVec.ofNat 8 m.val, 1] →
      exec .meterStop s = .next (meterTrigger m (answered { x with state := .stopped, rolloverDue := false }))) ∧
    (s.Asks p [0x0B, BitVec.ofNat 8 m.val, 2] →
      exec .meterRestart s = .next (meterTrigger m (answered
        { x with
          periodCount := 0
          used := 0
          rolloverDue := false
          next := none
          period := match x.next with
            | some n => n.period
            | none => x.period
          budget := match x.next with
            | some n => n.budget
            | none => x.budget })))

/-- R34: SET_DOMAIN replaces the whole record and is answered OK with the source id and the record as it stood; nothing
else changes, and no trigger is given. -/
def Obligations.SetDomainReplacesTheRecordAndReturnsTheOldOne : Prop :=
  ∀ (s : State) (p : Packet) (i : Fin 64) (r : DomainRecord),
    s.Asks p [0x05, BitVec.ofNat 8 i.val, flagByte r.valid, BitVec.ofNat 8 r.domain.val,
      BitVec.ofNat 8 r.sourceClass.code, BitVec.ofNat 8 r.missPolicy.code, flagByte r.mayManage] →
    exec .setDomain s = .next
      { s.replied p .ok (BitVec.ofNat 8 i.val :: (s.domains[i]).bytes) with domains := setAt s.domains i r }

/-- R12 to R15, R76: LOAD_WINDOW with operands in their ranges. ENTRY_BUSY with the state where the entry is not FREE;
OVERLAP with the lowest conflicting ACTIVE entry; otherwise the entry is ACTIVE as given with both counts 0, OK is
queued, and the MISS trigger follows. A refusal changes nothing. -/
def Obligations.LoadWindowActivatesAFreeEntryThatOverlapsNone : Prop :=
  ∀ (s : State) (p : Packet) (i : Fin 64) (e : WindowEntry), e.valuesOk = true →
    s.Asks p ([0x06, BitVec.ofNat 8 i.val, BitVec.ofNat 8 e.domain.code] ++ leBytes 5 e.cardBase.toNat
      ++ [BitVec.ofNat 8 e.sizeExp] ++ leBytes 5 e.memBase.toNat
      ++ [BitVec.ofNat 8 e.rights.code, BitVec.ofNat 8 e.delivery.code,
          (match e.meter with
           | some m => BitVec.ofNat 8 m.val
           | none => 0xFF)]) →
    let conflicts (j : Fin 64) : Prop :=
      (s.windows[j]).state = .active
        ∧ (∃ a : Nat, e.cardBase.toNat ≤ a ∧ a < e.cardBase.toNat + 2 ^ e.sizeExp
            ∧ (s.windows[j]).cardBase.toNat ≤ a ∧ a < (s.windows[j]).cardBase.toNat + 2 ^ (s.windows[j]).sizeExp)
        ∧ (e.domain = .shared ∨ (s.windows[j]).domain = .shared ∨ e.domain = (s.windows[j]).domain)
    ((s.windows[i]).state ≠ .free →
      exec .loadWindow s = .next
        (s.replied p .entryBusy [BitVec.ofNat 8 i.val, BitVec.ofNat 8 (s.windows[i]).state.code])) ∧
    (∀ j : Fin 64, (s.windows[i]).state = .free → conflicts j → (∀ j', conflicts j' → j ≤ j') →
      exec .loadWindow s = .next (s.replied p .overlap [BitVec.ofNat 8 i.val, BitVec.ofNat 8 j.val])) ∧
    ((s.windows[i]).state = .free → (∀ j, ¬conflicts j) →
      exec .loadWindow s = .next (missTrigger
        { s.replied p .ok [BitVec.ofNat 8 i.val, 0xFF] with
          windows := setAt s.windows i { e with state := .active, inFlight := 0, admissions := 0 } }))

/-- R16: WIDEN_WINDOW. BAD_VALUE for an index above 63, then NOT_ACTIVE for an entry that is not ACTIVE, then NARROWING
for a set that lacks a right held, in that order and each without effect; otherwise the rights become the new set, OK
carries it, and no other field changes. The set already held is accepted and changes nothing. -/
def Obligations.WidenWindowAddsRightsToAnActiveEntry : Prop :=
  (∀ (s : State) (p : Packet) (c b : Byte), s.Asks p [0x07, c, b] → 63 < c.toNat →
    exec .widenWindow s = .next (s.replied p .badValue [])) ∧
  (∀ (s : State) (p : Packet) (i : Fin 64) (r : Rights),
    s.Asks p [0x07, BitVec.ofNat 8 i.val, BitVec.ofNat 8 r.code] →
    let e := s.windows[i]
    let covers : Prop := (e.rights.read = true → r.read = true) ∧ (e.rights.write = true → r.write = true)
      ∧ (e.rights.userOpen = true → r.userOpen = true)
    (e.state ≠ .active → exec .widenWindow s = .next (s.replied p .notActive [])) ∧
    (e.state = .active → ¬covers → exec .widenWindow s = .next (s.replied p .narrowing [])) ∧
    (e.state = .active → covers →
      exec .widenWindow s = .next
        { s.replied p .ok [BitVec.ofNat 8 i.val, BitVec.ofNat 8 r.code] with
          windows := setAt s.windows i { e with rights := r } }) ∧
    (e.state = .active → r = e.rights →
      exec .widenWindow s = .next (s.replied p .ok [BitVec.ofNat 8 i.val, BitVec.ofNat 8 r.code])))

/-- R19 to R22, R148: RETIRE of each scope. BUSY while a long operation is in progress; NOT_ACTIVE, with count 0, for an
ENTRY that is not ACTIVE; otherwise the selected ACTIVE entries become FREE or DRAINING, and OK is queued at once with
the count and the widened flag, or a RETIRE in progress holds them. Operands the scope does not use are not looked at.
NOT_ACTIVE for a DRAINING entry is the model's (log 23). -/
def Obligations.RetireSelectsByScopeAndFreesOrDrains : Prop :=
  ∀ (s : State) (p : Packet) (index domain : Byte) (base length : Nat), base < 2 ^ 40 → length < 2 ^ 48 →
    let payload (scope : Byte) : List Byte := [0x09, scope, index, domain] ++ leBytes 5 base ++ leBytes 6 length
    (∀ row scope, (row, scope) ∈ [(MgmtRow.retireEntry, (0 : Byte)), (.retireRange, 1), (.retireDomain, 2),
        (.retireAll, 3)] → s.Asks p (payload scope) → s.longOp ≠ .idle →
      exec row.command s = .next (s.replied p .busy [])) ∧
    (∀ i : Fin 64, s.Asks p (payload 0) → s.longOp = .idle → index = BitVec.ofNat 8 i.val →
      ((s.windows[i]).state ≠ .active → exec .retireEntry s = .next (s.replied p .notActive [0, 0])) ∧
      ((s.windows[i]).state = .active → (s.windows[i]).inFlight = 0 →
        exec .retireEntry s = .next
          { s.replied p .ok [1, 0] with windows := setAt s.windows i { s.windows[i] with state := .free } }) ∧
      ((s.windows[i]).state = .active → (s.windows[i]).inFlight ≠ 0 →
        exec .retireEntry s = .next
          { takeFromC s with
            windows := setAt s.windows i { s.windows[i] with state := .draining }
            longOp := .retire p.source p.tag 1 false })) ∧
    (∀ d : WindowDomain, s.Asks p (payload 1) → s.longOp = .idle → domain = BitVec.ofNat 8 d.code → 1 ≤ length →
      base + length ≤ 2 ^ 40 →
      let sel (e : WindowEntry) : Bool :=
        decide (e.domain = d) && decide (e.cardBase.toNat < base + length)
          && decide (base < e.cardBase.toNat + 2 ^ e.sizeExp)
      let widened : Bool := decide (∃ j : Fin 64, (s.windows[j]).state = .active ∧ sel s.windows[j] = true ∧
        ((s.windows[j]).cardBase.toNat < base
          ∨ base + length < (s.windows[j]).cardBase.toNat + 2 ^ (s.windows[j]).sizeExp))
      ∃ t, exec .retireRange s = .next t ∧ RetireOutcome s p sel widened t) ∧
    (∀ d : Fin 16, s.Asks p (payload 2) → s.longOp = .idle → domain = BitVec.ofNat 8 d.val →
      ∃ t, exec .retireDomain s = .next t ∧
        RetireOutcome s p (fun e => decide (e.domain = .numbered d)) false t) ∧
    (s.Asks p (payload 3) → s.longOp = .idle →
      ∃ t, exec .retireAll s = .next t ∧ RetireOutcome s p (fun _ => true) false t)

/-- R63 to R65, R86, R147, R148: SET_MODE. BUSY while a long operation is in progress; a mode equal to the current one
is answered OK with marked count 0 and changes nothing. Otherwise the mode is the new one, the park queue is empty, every
WAITING slot is marked, and the READ and WRITE items are answered ABORTED in queue order: in the free places of the C
send queue, then on the abort list. With slots marked a SET_MODE is in progress; with none the reply is listed behind
the ABORTED answers, or placed at once where there are none (log 14). How many answers a listed reply waits for is
the model's own count (log 20), and that new ABORTED answers take free places while older ones are listed is inferred
(log 25). -/
def Obligations.SetModeChangesTheModeAndAbortsTheParkQueue : Prop :=
  ∀ (s : State) (p : Packet) (m : Mode), s.Asks p [0x0A, BitVec.ofNat 8 m.code] →
    (s.longOp ≠ .idle → exec .setMode s = .next (s.replied p .busy [])) ∧
    (s.longOp = .idle → m = s.mode →
      exec .setMode s = .next (s.replied p .ok [BitVec.ofNat 8 m.code, 0])) ∧
    (s.longOp = .idle → m ≠ s.mode →
      let u := takeFromC s
      let answered := s.park.filterMap fun it => match it.req.kind, it.req.tag with
        | .post, _ | _, none => none
        | _, some tag => some (it.req.source, tag, it.req.length)
      let free := if s.cUp then 16 - u.cPort.tx.length else answered.length
      let placed : PortState :=
        if s.cUp then
          { u.cPort with
            tx := u.cPort.tx ++ (answered.take free).map fun x =>
              answerPacket s x.1 x.2.1 .aborted x.2.2 [] }
        else u.cPort
      let marked := countTable (fun x : Slot => decide (x.state = .waiting)) s.slots
      let changed : State :=
        { u with
          mode := m
          park := []
          cPort := placed
          abortList := s.abortList ++ (answered.drop free).map fun x =>
            { dest := x.1, tag := x.2.1, length := x.2.2, fromModeChange := true }
          slots := mapTable
            (fun x : Slot => if x.state = .waiting then { x with drainMark := true } else x) s.slots }
      let results : List Byte := [BitVec.ofNat 8 s.mode.code, BitVec.ofNat 8 marked]
      (marked ≠ 0 →
        exec .setMode s = .next { changed with longOp := .setMode p.source p.tag s.mode marked }) ∧
      (marked = 0 → (∀ it ∈ s.park, it.req.kind = .post) →
        exec .setMode s = .next (reply p .ok results changed)) ∧
      (marked = 0 → (∃ it ∈ s.park, it.req.kind ≠ .post) →
        exec .setMode s = .next
          (if s.cUp then
            { changed with
              replies := s.replies ++
                [{ packet := replyTo p .ok results s
                   abortAhead := if s.abortList.length < changed.abortList.length then changed.abortList.length
                     else 0
                   holdAhead := 0 }] }
           else changed)))

/-- R134: RELEASE_FAULT. An index above 15 is BAD_VALUE and a record that is not pending is NOT_PENDING, each without
effect; otherwise the record's pending field is cleared with the rest kept, the pending count falls by 1, the reply
carries the summary after it, and the alert is serviced when no record is pending and the flag is clear. The next fault
of the key takes a new record, or is lost when the overflow flag is set or there is no room.
R135: CLEAR_OVERFLOW clears the flag and is answered OK with the summary after it; with the flag already clear it
changes nothing. The alert is serviced when no record is pending; the records, and so the faults lost, stay as they
were, and a new fault is then recorded by case 1 (a repeat of a pending record of its key), case 3 (no room: the flag is
set) or case 4 (a new record at the write position) of R128. It is no alert condition. -/
def Obligations.FaultsAreReleasedAndTheOverflowCleared : Prop :=
  (∀ (s : State) (p : Packet) (c : Byte), s.Asks p [0x0D, c] → 15 < c.toNat →
    exec .releaseFault s = .next (s.replied p .badValue [])) ∧
  (∀ (s : State) (p : Packet) (i : Fin 16), s.Asks p [0x0D, BitVec.ofNat 8 i.val] →
    ((s.log.records[i]).pending = false → exec .releaseFault s = .next (s.replied p .notPending [])) ∧
    ((s.log.records[i]).pending = true →
      let log : FaultLog :=
        { s.log with records := setAt s.log.records i { s.log.records[i] with pending := false } }
      countTable FaultRecord.pending log.records + 1 = countTable FaultRecord.pending s.log.records ∧
      exec .releaseFault s = .next
        { s.replied p .ok log.summary with
          log := log
          alert := if countTable FaultRecord.pending log.records = 0 ∧ s.log.overflow = false then
              { s.alert with pending := false, due := false }
            else s.alert } ∧
      (∀ (f : FaultInfo) (now : Tick),
        f.kind = (s.log.records[i]).info.kind → f.source = (s.log.records[i]).info.source →
        f.locus = (s.log.records[i]).info.locus →
        (∀ j : Fin 16, j ≠ i → (s.log.records[j]).pending = true →
          ¬((s.log.records[j]).info.kind = f.kind ∧ (s.log.records[j]).info.source = f.source
            ∧ (s.log.records[j]).info.locus = f.locus)) →
        (log.record f now).1 =
          if log.overflow = true then log
          else if (log.records[log.writePos]).pending = true then { log with overflow := true }
          else
            { log with
              records := setAt log.records log.writePos
                { pending := true, info := f, firstTick := now, repeatCount := 0 }
              writePos := log.writePos + 1 }))) ∧
  (∀ (s : State) (p : Packet), s.Asks p [0x0E] →
    let log : FaultLog := { s.log with overflow := false }
    exec .clearOverflow s = .next
      { s.replied p .ok log.summary with
        log := log
        alert := if s.log.overflow = true ∧ (∀ i : Fin 16, (s.log.records[i]).pending = false) then
            { s.alert with pending := false, due := false }
          else s.alert } ∧
    (s.log.overflow = false → exec .clearOverflow s = .next (s.replied p .ok s.log.summary)) ∧
    (∀ (f : FaultInfo) (now : Tick),
      let holds (i : Fin 16) : Prop := (log.records[i]).pending = true ∧ (log.records[i]).info.kind = f.kind ∧
        (log.records[i]).info.source = f.source ∧ (log.records[i]).info.locus = f.locus
      (∃ i : Fin 16, holds i ∧ (log.record f now).1 =
        { log with
          records := setAt log.records i
            { log.records[i] with
              repeatCount := if (log.records[i]).repeatCount < 255 then (log.records[i]).repeatCount + 1
                else (log.records[i]).repeatCount } }) ∨
      ((∀ i, ¬holds i) ∧ (log.records[log.writePos]).pending = true ∧
        (log.record f now).1 = { log with overflow := true }) ∨
      ((∀ i, ¬holds i) ∧ (log.records[log.writePos]).pending = false ∧
        (log.record f now).1 =
          { log with
            records := setAt log.records log.writePos
              { pending := true, info := f, firstTick := now, repeatCount := 0 }
            writePos := log.writePos + 1 })))

/-- R168, R169: PORT_STATUS returns the port's training state, payload, credits, fills and indications as they stand when
the request is taken, and clears the indications; nothing else changes. That the C-port's fills are those after its
packet has left the receive buffer and before its reply is placed is the model's choice (log 31). -/
def Obligations.PortStatusReportsAndClearsTheIndications : Prop :=
  ∀ (q : Port) (s : State) (p : Packet),
    let code : Byte := match q with
      | .c => 0
      | .m => 1
    s.Asks p [0x10, code] →
    let x := (takeFromC s).port q
    let clear : Indications :=
      { wentDown := false, cameUp := false, checkError := false, malformed := false, misplaced := false,
        creditError := false }
    let u := (takeFromC s).setPort q { x with indications := clear }
    exec .portStatus s = .next (reply p .ok
      ([code, BitVec.ofNat 8 x.training.code]
        ++ (match x.negotiated with
            | some n => leBytes 2 n
            | none => [0xFF, 0xFF])
        ++ [BitVec.ofNat 8 x.credits, BitVec.ofNat 8 x.rx.length, BitVec.ofNat 8 x.tx.length,
            BitVec.ofNat 8 (x.indications.wentDown.toNat + 2 * x.indications.cameUp.toNat
              + 4 * x.indications.checkError.toNat + 8 * x.indications.malformed.toNat
              + 16 * x.indications.misplaced.toNat + 32 * x.indications.creditError.toNat)]) u)

/-- R154, R155, R110, R88, R26, R125, R167, R147, R148: RESET(WARM). The park queue is ended and every WAITING slot freed,
their READ and WRITE requests answered ABORTED: first the items, then the slots in ascending order, in the free places of
the C send queue, the rest on the abort list and on the hold list. The M send queue is emptied, DRAINING entries are
FREE and the in-flight counts 0, the meters' counts 0 and their next values gone, the long operation ended with an
ABORTED reply and the reset's own OK reply behind it. The rest of the bridge is kept. The mark of a due rollover is the
model's (log 5), how many answers a listed reply waits for is its own count (log 20), and that new ABORTED answers take
free places while older ones are listed is inferred (log 25). -/
def Obligations.AWarmResetEndsItemsSlotsDrainsAndTheLongOperation : Prop :=
  ∀ (s : State) (p : Packet), s.Asks p [0x11, 1] →
    let u := takeFromC s
    let items := s.park.filterMap fun it => match it.req.kind, it.req.tag with
      | .post, _ | _, none => none
      | _, some tag => some (it.req.source, tag, it.req.length)
    let waiting := (List.finRange 32).filter fun i => decide ((s.slots[i]).state = .waiting)
    let slots := waiting.filterMap fun i => match (s.slots[i]).kind, (s.slots[i]).upTag with
      | .confirm, _ | _, none => none
      | _, some tag => some ((s.slots[i]).origin, tag, (s.slots[i]).length)
    let free := if s.cUp then 16 - u.cPort.tx.length else items.length + slots.length
    let left := free - items.length
    let aborts := s.abortList ++ (items.drop free).map fun x =>
      { dest := x.1, tag := x.2.1, length := x.2.2, fromModeChange := false }
    let holds := s.holdList ++ (slots.drop left).map fun x =>
      { dest := x.1, tag := x.2.1, length := x.2.2, status := .aborted }
    let listed (pkt : Packet) : Reply :=
      { packet := pkt
        abortAhead := if s.abortList.length < aborts.length then aborts.length else 0
        holdAhead := if s.holdList.length < holds.length then holds.length else 0 }
    let ended : List Packet := match s.longOp with
      | .idle => []
      | .retire src tag retired widened =>
        [mreplyPacket s src tag 0x09 .aborted [BitVec.ofNat 8 retired, flagByte widened]]
      | .setMode src tag oldMode marked =>
        [mreplyPacket s src tag 0x0A .aborted [BitVec.ofNat 8 oldMode.code, BitVec.ofNat 8 marked]]
    let own := replyTo p .ok [BitVec.ofNat 8 s.park.length, BitVec.ofNat 8 waiting.length] s
    exec .resetWarm s = .next
      { u with
        park := []
        abortList := aborts
        holdList := holds
        cPort := if s.cUp then
            { u.cPort with
              tx := u.cPort.tx ++ (items.take free ++ slots.take left).map fun x =>
                answerPacket s x.1 x.2.1 .aborted x.2.2 [] }
          else u.cPort
        mPort := { s.mPort with tx := [] }
        slots := mapTable
          (fun x : Slot =>
            if x.state = .waiting then
              { x with state := .free, generation := x.generation + 1, overdue := false, drainMark := false }
            else x) s.slots
        freeList := s.freeList ++ waiting
        windows := mapTable
          (fun e : WindowEntry =>
            { e with inFlight := 0, state := if e.state = .draining then .free else e.state }) s.windows
        meters := mapTable
          (fun x : Meter => { x with periodCount := 0, used := 0, next := none, rolloverDue := false }) s.meters
        longOp := .idle
        replies := if s.cUp then s.replies ++ (ended ++ [own]).map listed else s.replies }

/-! ## Invariants -/

/-- The laws of R93, R8, R9, R23 and R66 on slots, windows and the long operation are kept by every step. -/
def Obligations.EveryStepKeepsTheTableLaw : Prop :=
  ∀ s t : State, s.TableLaw → step s = .next t → t.TableLaw

/-- R5 and R1: no two ACTIVE entries match the same pair of domain and card address, and entries that are not FREE hold
values in the ranges of the table; every step keeps both. -/
def Obligations.EveryStepKeepsTheWindowsDisjointAndInRange : Prop :=
  ∀ s t : State, s.DisjointLaw → s.RangeLaw → step s = .next t → t.DisjointLaw ∧ t.RangeLaw

/-- R157, R159, R87, R106, R147: the ports' records, and the lists that wait for the C-port, keep their law. -/
def Obligations.EveryStepKeepsThePortsLaw : Prop :=
  ∀ s t : State, s.PortsLaw → step s = .next t → t.PortsLaw

/-- R111 and R113: the meters keep the ranges of their settings and of their used counts, and a period count below the
period. The law's clause on the mark of a due rollover is about the model's own mark (log 5). -/
def Obligations.EveryStepKeepsTheMetersLaw : Prop :=
  ∀ s t : State, s.MetersLaw → step s = .next t → t.MetersLaw

/-- R128, R126 and R139: no two pending records have the same key, no repeat count exceeds 255, and the alert is pending
or due only as R139 says. -/
def Obligations.EveryStepKeepsTheLogAndAlertLaws : Prop :=
  (∀ s t : State, s.LogLaw → step s = .next t → t.LogLaw) ∧
  (∀ s t : State, s.AlertLaw → step s = .next t → t.AlertLaw)

/-- R71, R70 and R42: the park queue holds at most 16 items with every item but its source's oldest BEHIND, and none in
SHUT mode. The rise of the serial numbers is the model's own (log 18). -/
def Obligations.EveryStepKeepsTheParkLaw : Prop :=
  ∀ s t : State, s.ParkLaw → step s = .next t → t.ParkLaw

/-- The laws hold after a power-on reset with any straps, and so in the reset state. -/
def Obligations.TheLawsHoldAfterPowerOn : Prop :=
  (∀ straps : Straps,
    let s := State.powerOn straps
    s.TableLaw ∧ s.DisjointLaw ∧ s.RangeLaw ∧ s.PortsLaw ∧ s.MetersLaw ∧ s.LogLaw ∧ s.AlertLaw ∧ s.ParkLaw) ∧
  State.reset = State.powerOn Config.resetStraps

end
end

