-- ==== Sys2Proof/Laws/State.lean ====
section
/-! SUPPORT. One lemma per field per named update of the state, true by rfl. -/

namespace Sys2Proof.Machine.State

section
variable (s : State) (x : Bool)
@[simp] theorem setInReset_pending : (s.setInReset x).pending = s.pending := rfl
@[simp] theorem setInReset_inReset : (s.setInReset x).inReset = x := rfl
@[simp] theorem setInReset_straps : (s.setInReset x).straps = s.straps := rfl
@[simp] theorem setInReset_tick : (s.setInReset x).tick = s.tick := rfl
@[simp] theorem setInReset_mode : (s.setInReset x).mode = s.mode := rfl
@[simp] theorem setInReset_domains : (s.setInReset x).domains = s.domains := rfl
@[simp] theorem setInReset_windows : (s.setInReset x).windows = s.windows := rfl
@[simp] theorem setInReset_park : (s.setInReset x).park = s.park := rfl
@[simp] theorem setInReset_abortList : (s.setInReset x).abortList = s.abortList := rfl
@[simp] theorem setInReset_parkLimit : (s.setInReset x).parkLimit = s.parkLimit := rfl
@[simp] theorem setInReset_slots : (s.setInReset x).slots = s.slots := rfl
@[simp] theorem setInReset_freeList : (s.setInReset x).freeList = s.freeList := rfl
@[simp] theorem setInReset_holdList : (s.setInReset x).holdList = s.holdList := rfl
@[simp] theorem setInReset_answerTimeout : (s.setInReset x).answerTimeout = s.answerTimeout := rfl
@[simp] theorem setInReset_meters : (s.setInReset x).meters = s.meters := rfl
@[simp] theorem setInReset_log : (s.setInReset x).log = s.log := rfl
@[simp] theorem setInReset_alert : (s.setInReset x).alert = s.alert := rfl
@[simp] theorem setInReset_longOp : (s.setInReset x).longOp = s.longOp := rfl
@[simp] theorem setInReset_replies : (s.setInReset x).replies = s.replies := rfl
@[simp] theorem setInReset_cPort : (s.setInReset x).cPort = s.cPort := rfl
@[simp] theorem setInReset_mPort : (s.setInReset x).mPort = s.mPort := rfl
@[simp] theorem setInReset_nextProducer : (s.setInReset x).nextProducer = s.nextProducer := rfl
@[simp] theorem setInReset_slotTriggerWaits : (s.setInReset x).slotTriggerWaits = s.slotTriggerWaits := rfl
@[simp] theorem setInReset_slotTriggersDue : (s.setInReset x).slotTriggersDue = s.slotTriggersDue := rfl
end

section
variable (s : State) (x : Tick)
@[simp] theorem setTick_pending : (s.setTick x).pending = s.pending := rfl
@[simp] theorem setTick_inReset : (s.setTick x).inReset = s.inReset := rfl
@[simp] theorem setTick_straps : (s.setTick x).straps = s.straps := rfl
@[simp] theorem setTick_tick : (s.setTick x).tick = x := rfl
@[simp] theorem setTick_mode : (s.setTick x).mode = s.mode := rfl
@[simp] theorem setTick_domains : (s.setTick x).domains = s.domains := rfl
@[simp] theorem setTick_windows : (s.setTick x).windows = s.windows := rfl
@[simp] theorem setTick_park : (s.setTick x).park = s.park := rfl
@[simp] theorem setTick_abortList : (s.setTick x).abortList = s.abortList := rfl
@[simp] theorem setTick_parkLimit : (s.setTick x).parkLimit = s.parkLimit := rfl
@[simp] theorem setTick_slots : (s.setTick x).slots = s.slots := rfl
@[simp] theorem setTick_freeList : (s.setTick x).freeList = s.freeList := rfl
@[simp] theorem setTick_holdList : (s.setTick x).holdList = s.holdList := rfl
@[simp] theorem setTick_answerTimeout : (s.setTick x).answerTimeout = s.answerTimeout := rfl
@[simp] theorem setTick_meters : (s.setTick x).meters = s.meters := rfl
@[simp] theorem setTick_log : (s.setTick x).log = s.log := rfl
@[simp] theorem setTick_alert : (s.setTick x).alert = s.alert := rfl
@[simp] theorem setTick_longOp : (s.setTick x).longOp = s.longOp := rfl
@[simp] theorem setTick_replies : (s.setTick x).replies = s.replies := rfl
@[simp] theorem setTick_cPort : (s.setTick x).cPort = s.cPort := rfl
@[simp] theorem setTick_mPort : (s.setTick x).mPort = s.mPort := rfl
@[simp] theorem setTick_nextProducer : (s.setTick x).nextProducer = s.nextProducer := rfl
@[simp] theorem setTick_slotTriggerWaits : (s.setTick x).slotTriggerWaits = s.slotTriggerWaits := rfl
@[simp] theorem setTick_slotTriggersDue : (s.setTick x).slotTriggersDue = s.slotTriggersDue := rfl
end

section
variable (s : State) (x : Mode)
@[simp] theorem setModeField_pending : (s.setModeField x).pending = s.pending := rfl
@[simp] theorem setModeField_inReset : (s.setModeField x).inReset = s.inReset := rfl
@[simp] theorem setModeField_straps : (s.setModeField x).straps = s.straps := rfl
@[simp] theorem setModeField_tick : (s.setModeField x).tick = s.tick := rfl
@[simp] theorem setModeField_mode : (s.setModeField x).mode = x := rfl
@[simp] theorem setModeField_domains : (s.setModeField x).domains = s.domains := rfl
@[simp] theorem setModeField_windows : (s.setModeField x).windows = s.windows := rfl
@[simp] theorem setModeField_park : (s.setModeField x).park = s.park := rfl
@[simp] theorem setModeField_abortList : (s.setModeField x).abortList = s.abortList := rfl
@[simp] theorem setModeField_parkLimit : (s.setModeField x).parkLimit = s.parkLimit := rfl
@[simp] theorem setModeField_slots : (s.setModeField x).slots = s.slots := rfl
@[simp] theorem setModeField_freeList : (s.setModeField x).freeList = s.freeList := rfl
@[simp] theorem setModeField_holdList : (s.setModeField x).holdList = s.holdList := rfl
@[simp] theorem setModeField_answerTimeout : (s.setModeField x).answerTimeout = s.answerTimeout := rfl
@[simp] theorem setModeField_meters : (s.setModeField x).meters = s.meters := rfl
@[simp] theorem setModeField_log : (s.setModeField x).log = s.log := rfl
@[simp] theorem setModeField_alert : (s.setModeField x).alert = s.alert := rfl
@[simp] theorem setModeField_longOp : (s.setModeField x).longOp = s.longOp := rfl
@[simp] theorem setModeField_replies : (s.setModeField x).replies = s.replies := rfl
@[simp] theorem setModeField_cPort : (s.setModeField x).cPort = s.cPort := rfl
@[simp] theorem setModeField_mPort : (s.setModeField x).mPort = s.mPort := rfl
@[simp] theorem setModeField_nextProducer : (s.setModeField x).nextProducer = s.nextProducer := rfl
@[simp] theorem setModeField_slotTriggerWaits : (s.setModeField x).slotTriggerWaits = s.slotTriggerWaits := rfl
@[simp] theorem setModeField_slotTriggersDue : (s.setModeField x).slotTriggersDue = s.slotTriggersDue := rfl
end

section
variable (s : State) (x : Vector DomainRecord 64)
@[simp] theorem setDomains_pending : (s.setDomains x).pending = s.pending := rfl
@[simp] theorem setDomains_inReset : (s.setDomains x).inReset = s.inReset := rfl
@[simp] theorem setDomains_straps : (s.setDomains x).straps = s.straps := rfl
@[simp] theorem setDomains_tick : (s.setDomains x).tick = s.tick := rfl
@[simp] theorem setDomains_mode : (s.setDomains x).mode = s.mode := rfl
@[simp] theorem setDomains_domains : (s.setDomains x).domains = x := rfl
@[simp] theorem setDomains_windows : (s.setDomains x).windows = s.windows := rfl
@[simp] theorem setDomains_park : (s.setDomains x).park = s.park := rfl
@[simp] theorem setDomains_abortList : (s.setDomains x).abortList = s.abortList := rfl
@[simp] theorem setDomains_parkLimit : (s.setDomains x).parkLimit = s.parkLimit := rfl
@[simp] theorem setDomains_slots : (s.setDomains x).slots = s.slots := rfl
@[simp] theorem setDomains_freeList : (s.setDomains x).freeList = s.freeList := rfl
@[simp] theorem setDomains_holdList : (s.setDomains x).holdList = s.holdList := rfl
@[simp] theorem setDomains_answerTimeout : (s.setDomains x).answerTimeout = s.answerTimeout := rfl
@[simp] theorem setDomains_meters : (s.setDomains x).meters = s.meters := rfl
@[simp] theorem setDomains_log : (s.setDomains x).log = s.log := rfl
@[simp] theorem setDomains_alert : (s.setDomains x).alert = s.alert := rfl
@[simp] theorem setDomains_longOp : (s.setDomains x).longOp = s.longOp := rfl
@[simp] theorem setDomains_replies : (s.setDomains x).replies = s.replies := rfl
@[simp] theorem setDomains_cPort : (s.setDomains x).cPort = s.cPort := rfl
@[simp] theorem setDomains_mPort : (s.setDomains x).mPort = s.mPort := rfl
@[simp] theorem setDomains_nextProducer : (s.setDomains x).nextProducer = s.nextProducer := rfl
@[simp] theorem setDomains_slotTriggerWaits : (s.setDomains x).slotTriggerWaits = s.slotTriggerWaits := rfl
@[simp] theorem setDomains_slotTriggersDue : (s.setDomains x).slotTriggersDue = s.slotTriggersDue := rfl
end

section
variable (s : State) (x : Vector WindowEntry 64)
@[simp] theorem setWindows_pending : (s.setWindows x).pending = s.pending := rfl
@[simp] theorem setWindows_inReset : (s.setWindows x).inReset = s.inReset := rfl
@[simp] theorem setWindows_straps : (s.setWindows x).straps = s.straps := rfl
@[simp] theorem setWindows_tick : (s.setWindows x).tick = s.tick := rfl
@[simp] theorem setWindows_mode : (s.setWindows x).mode = s.mode := rfl
@[simp] theorem setWindows_domains : (s.setWindows x).domains = s.domains := rfl
@[simp] theorem setWindows_windows : (s.setWindows x).windows = x := rfl
@[simp] theorem setWindows_park : (s.setWindows x).park = s.park := rfl
@[simp] theorem setWindows_abortList : (s.setWindows x).abortList = s.abortList := rfl
@[simp] theorem setWindows_parkLimit : (s.setWindows x).parkLimit = s.parkLimit := rfl
@[simp] theorem setWindows_slots : (s.setWindows x).slots = s.slots := rfl
@[simp] theorem setWindows_freeList : (s.setWindows x).freeList = s.freeList := rfl
@[simp] theorem setWindows_holdList : (s.setWindows x).holdList = s.holdList := rfl
@[simp] theorem setWindows_answerTimeout : (s.setWindows x).answerTimeout = s.answerTimeout := rfl
@[simp] theorem setWindows_meters : (s.setWindows x).meters = s.meters := rfl
@[simp] theorem setWindows_log : (s.setWindows x).log = s.log := rfl
@[simp] theorem setWindows_alert : (s.setWindows x).alert = s.alert := rfl
@[simp] theorem setWindows_longOp : (s.setWindows x).longOp = s.longOp := rfl
@[simp] theorem setWindows_replies : (s.setWindows x).replies = s.replies := rfl
@[simp] theorem setWindows_cPort : (s.setWindows x).cPort = s.cPort := rfl
@[simp] theorem setWindows_mPort : (s.setWindows x).mPort = s.mPort := rfl
@[simp] theorem setWindows_nextProducer : (s.setWindows x).nextProducer = s.nextProducer := rfl
@[simp] theorem setWindows_slotTriggerWaits : (s.setWindows x).slotTriggerWaits = s.slotTriggerWaits := rfl
@[simp] theorem setWindows_slotTriggersDue : (s.setWindows x).slotTriggersDue = s.slotTriggersDue := rfl
end

section
variable (s : State) (x : List ParkItem)
@[simp] theorem setPark_pending : (s.setPark x).pending = s.pending := rfl
@[simp] theorem setPark_inReset : (s.setPark x).inReset = s.inReset := rfl
@[simp] theorem setPark_straps : (s.setPark x).straps = s.straps := rfl
@[simp] theorem setPark_tick : (s.setPark x).tick = s.tick := rfl
@[simp] theorem setPark_mode : (s.setPark x).mode = s.mode := rfl
@[simp] theorem setPark_domains : (s.setPark x).domains = s.domains := rfl
@[simp] theorem setPark_windows : (s.setPark x).windows = s.windows := rfl
@[simp] theorem setPark_park : (s.setPark x).park = x := rfl
@[simp] theorem setPark_abortList : (s.setPark x).abortList = s.abortList := rfl
@[simp] theorem setPark_parkLimit : (s.setPark x).parkLimit = s.parkLimit := rfl
@[simp] theorem setPark_slots : (s.setPark x).slots = s.slots := rfl
@[simp] theorem setPark_freeList : (s.setPark x).freeList = s.freeList := rfl
@[simp] theorem setPark_holdList : (s.setPark x).holdList = s.holdList := rfl
@[simp] theorem setPark_answerTimeout : (s.setPark x).answerTimeout = s.answerTimeout := rfl
@[simp] theorem setPark_meters : (s.setPark x).meters = s.meters := rfl
@[simp] theorem setPark_log : (s.setPark x).log = s.log := rfl
@[simp] theorem setPark_alert : (s.setPark x).alert = s.alert := rfl
@[simp] theorem setPark_longOp : (s.setPark x).longOp = s.longOp := rfl
@[simp] theorem setPark_replies : (s.setPark x).replies = s.replies := rfl
@[simp] theorem setPark_cPort : (s.setPark x).cPort = s.cPort := rfl
@[simp] theorem setPark_mPort : (s.setPark x).mPort = s.mPort := rfl
@[simp] theorem setPark_nextProducer : (s.setPark x).nextProducer = s.nextProducer := rfl
@[simp] theorem setPark_slotTriggerWaits : (s.setPark x).slotTriggerWaits = s.slotTriggerWaits := rfl
@[simp] theorem setPark_slotTriggersDue : (s.setPark x).slotTriggersDue = s.slotTriggersDue := rfl
end

section
variable (s : State) (x : List AbortEntry)
@[simp] theorem setAbortList_pending : (s.setAbortList x).pending = s.pending := rfl
@[simp] theorem setAbortList_inReset : (s.setAbortList x).inReset = s.inReset := rfl
@[simp] theorem setAbortList_straps : (s.setAbortList x).straps = s.straps := rfl
@[simp] theorem setAbortList_tick : (s.setAbortList x).tick = s.tick := rfl
@[simp] theorem setAbortList_mode : (s.setAbortList x).mode = s.mode := rfl
@[simp] theorem setAbortList_domains : (s.setAbortList x).domains = s.domains := rfl
@[simp] theorem setAbortList_windows : (s.setAbortList x).windows = s.windows := rfl
@[simp] theorem setAbortList_park : (s.setAbortList x).park = s.park := rfl
@[simp] theorem setAbortList_abortList : (s.setAbortList x).abortList = x := rfl
@[simp] theorem setAbortList_parkLimit : (s.setAbortList x).parkLimit = s.parkLimit := rfl
@[simp] theorem setAbortList_slots : (s.setAbortList x).slots = s.slots := rfl
@[simp] theorem setAbortList_freeList : (s.setAbortList x).freeList = s.freeList := rfl
@[simp] theorem setAbortList_holdList : (s.setAbortList x).holdList = s.holdList := rfl
@[simp] theorem setAbortList_answerTimeout : (s.setAbortList x).answerTimeout = s.answerTimeout := rfl
@[simp] theorem setAbortList_meters : (s.setAbortList x).meters = s.meters := rfl
@[simp] theorem setAbortList_log : (s.setAbortList x).log = s.log := rfl
@[simp] theorem setAbortList_alert : (s.setAbortList x).alert = s.alert := rfl
@[simp] theorem setAbortList_longOp : (s.setAbortList x).longOp = s.longOp := rfl
@[simp] theorem setAbortList_replies : (s.setAbortList x).replies = s.replies := rfl
@[simp] theorem setAbortList_cPort : (s.setAbortList x).cPort = s.cPort := rfl
@[simp] theorem setAbortList_mPort : (s.setAbortList x).mPort = s.mPort := rfl
@[simp] theorem setAbortList_nextProducer : (s.setAbortList x).nextProducer = s.nextProducer := rfl
@[simp] theorem setAbortList_slotTriggerWaits : (s.setAbortList x).slotTriggerWaits = s.slotTriggerWaits := rfl
@[simp] theorem setAbortList_slotTriggersDue : (s.setAbortList x).slotTriggersDue = s.slotTriggersDue := rfl
end

section
variable (s : State) (x : Nat)
@[simp] theorem setParkLimit_pending : (s.setParkLimit x).pending = s.pending := rfl
@[simp] theorem setParkLimit_inReset : (s.setParkLimit x).inReset = s.inReset := rfl
@[simp] theorem setParkLimit_straps : (s.setParkLimit x).straps = s.straps := rfl
@[simp] theorem setParkLimit_tick : (s.setParkLimit x).tick = s.tick := rfl
@[simp] theorem setParkLimit_mode : (s.setParkLimit x).mode = s.mode := rfl
@[simp] theorem setParkLimit_domains : (s.setParkLimit x).domains = s.domains := rfl
@[simp] theorem setParkLimit_windows : (s.setParkLimit x).windows = s.windows := rfl
@[simp] theorem setParkLimit_park : (s.setParkLimit x).park = s.park := rfl
@[simp] theorem setParkLimit_abortList : (s.setParkLimit x).abortList = s.abortList := rfl
@[simp] theorem setParkLimit_parkLimit : (s.setParkLimit x).parkLimit = x := rfl
@[simp] theorem setParkLimit_slots : (s.setParkLimit x).slots = s.slots := rfl
@[simp] theorem setParkLimit_freeList : (s.setParkLimit x).freeList = s.freeList := rfl
@[simp] theorem setParkLimit_holdList : (s.setParkLimit x).holdList = s.holdList := rfl
@[simp] theorem setParkLimit_answerTimeout : (s.setParkLimit x).answerTimeout = s.answerTimeout := rfl
@[simp] theorem setParkLimit_meters : (s.setParkLimit x).meters = s.meters := rfl
@[simp] theorem setParkLimit_log : (s.setParkLimit x).log = s.log := rfl
@[simp] theorem setParkLimit_alert : (s.setParkLimit x).alert = s.alert := rfl
@[simp] theorem setParkLimit_longOp : (s.setParkLimit x).longOp = s.longOp := rfl
@[simp] theorem setParkLimit_replies : (s.setParkLimit x).replies = s.replies := rfl
@[simp] theorem setParkLimit_cPort : (s.setParkLimit x).cPort = s.cPort := rfl
@[simp] theorem setParkLimit_mPort : (s.setParkLimit x).mPort = s.mPort := rfl
@[simp] theorem setParkLimit_nextProducer : (s.setParkLimit x).nextProducer = s.nextProducer := rfl
@[simp] theorem setParkLimit_slotTriggerWaits : (s.setParkLimit x).slotTriggerWaits = s.slotTriggerWaits := rfl
@[simp] theorem setParkLimit_slotTriggersDue : (s.setParkLimit x).slotTriggersDue = s.slotTriggersDue := rfl
end

section
variable (s : State) (x : Vector Slot 32)
@[simp] theorem setSlots_pending : (s.setSlots x).pending = s.pending := rfl
@[simp] theorem setSlots_inReset : (s.setSlots x).inReset = s.inReset := rfl
@[simp] theorem setSlots_straps : (s.setSlots x).straps = s.straps := rfl
@[simp] theorem setSlots_tick : (s.setSlots x).tick = s.tick := rfl
@[simp] theorem setSlots_mode : (s.setSlots x).mode = s.mode := rfl
@[simp] theorem setSlots_domains : (s.setSlots x).domains = s.domains := rfl
@[simp] theorem setSlots_windows : (s.setSlots x).windows = s.windows := rfl
@[simp] theorem setSlots_park : (s.setSlots x).park = s.park := rfl
@[simp] theorem setSlots_abortList : (s.setSlots x).abortList = s.abortList := rfl
@[simp] theorem setSlots_parkLimit : (s.setSlots x).parkLimit = s.parkLimit := rfl
@[simp] theorem setSlots_slots : (s.setSlots x).slots = x := rfl
@[simp] theorem setSlots_freeList : (s.setSlots x).freeList = s.freeList := rfl
@[simp] theorem setSlots_holdList : (s.setSlots x).holdList = s.holdList := rfl
@[simp] theorem setSlots_answerTimeout : (s.setSlots x).answerTimeout = s.answerTimeout := rfl
@[simp] theorem setSlots_meters : (s.setSlots x).meters = s.meters := rfl
@[simp] theorem setSlots_log : (s.setSlots x).log = s.log := rfl
@[simp] theorem setSlots_alert : (s.setSlots x).alert = s.alert := rfl
@[simp] theorem setSlots_longOp : (s.setSlots x).longOp = s.longOp := rfl
@[simp] theorem setSlots_replies : (s.setSlots x).replies = s.replies := rfl
@[simp] theorem setSlots_cPort : (s.setSlots x).cPort = s.cPort := rfl
@[simp] theorem setSlots_mPort : (s.setSlots x).mPort = s.mPort := rfl
@[simp] theorem setSlots_nextProducer : (s.setSlots x).nextProducer = s.nextProducer := rfl
@[simp] theorem setSlots_slotTriggerWaits : (s.setSlots x).slotTriggerWaits = s.slotTriggerWaits := rfl
@[simp] theorem setSlots_slotTriggersDue : (s.setSlots x).slotTriggersDue = s.slotTriggersDue := rfl
end

section
variable (s : State) (x : List (Fin 32))
@[simp] theorem setFreeList_pending : (s.setFreeList x).pending = s.pending := rfl
@[simp] theorem setFreeList_inReset : (s.setFreeList x).inReset = s.inReset := rfl
@[simp] theorem setFreeList_straps : (s.setFreeList x).straps = s.straps := rfl
@[simp] theorem setFreeList_tick : (s.setFreeList x).tick = s.tick := rfl
@[simp] theorem setFreeList_mode : (s.setFreeList x).mode = s.mode := rfl
@[simp] theorem setFreeList_domains : (s.setFreeList x).domains = s.domains := rfl
@[simp] theorem setFreeList_windows : (s.setFreeList x).windows = s.windows := rfl
@[simp] theorem setFreeList_park : (s.setFreeList x).park = s.park := rfl
@[simp] theorem setFreeList_abortList : (s.setFreeList x).abortList = s.abortList := rfl
@[simp] theorem setFreeList_parkLimit : (s.setFreeList x).parkLimit = s.parkLimit := rfl
@[simp] theorem setFreeList_slots : (s.setFreeList x).slots = s.slots := rfl
@[simp] theorem setFreeList_freeList : (s.setFreeList x).freeList = x := rfl
@[simp] theorem setFreeList_holdList : (s.setFreeList x).holdList = s.holdList := rfl
@[simp] theorem setFreeList_answerTimeout : (s.setFreeList x).answerTimeout = s.answerTimeout := rfl
@[simp] theorem setFreeList_meters : (s.setFreeList x).meters = s.meters := rfl
@[simp] theorem setFreeList_log : (s.setFreeList x).log = s.log := rfl
@[simp] theorem setFreeList_alert : (s.setFreeList x).alert = s.alert := rfl
@[simp] theorem setFreeList_longOp : (s.setFreeList x).longOp = s.longOp := rfl
@[simp] theorem setFreeList_replies : (s.setFreeList x).replies = s.replies := rfl
@[simp] theorem setFreeList_cPort : (s.setFreeList x).cPort = s.cPort := rfl
@[simp] theorem setFreeList_mPort : (s.setFreeList x).mPort = s.mPort := rfl
@[simp] theorem setFreeList_nextProducer : (s.setFreeList x).nextProducer = s.nextProducer := rfl
@[simp] theorem setFreeList_slotTriggerWaits : (s.setFreeList x).slotTriggerWaits = s.slotTriggerWaits := rfl
@[simp] theorem setFreeList_slotTriggersDue : (s.setFreeList x).slotTriggersDue = s.slotTriggersDue := rfl
end

section
variable (s : State) (x : List HoldEntry)
@[simp] theorem setHoldList_pending : (s.setHoldList x).pending = s.pending := rfl
@[simp] theorem setHoldList_inReset : (s.setHoldList x).inReset = s.inReset := rfl
@[simp] theorem setHoldList_straps : (s.setHoldList x).straps = s.straps := rfl
@[simp] theorem setHoldList_tick : (s.setHoldList x).tick = s.tick := rfl
@[simp] theorem setHoldList_mode : (s.setHoldList x).mode = s.mode := rfl
@[simp] theorem setHoldList_domains : (s.setHoldList x).domains = s.domains := rfl
@[simp] theorem setHoldList_windows : (s.setHoldList x).windows = s.windows := rfl
@[simp] theorem setHoldList_park : (s.setHoldList x).park = s.park := rfl
@[simp] theorem setHoldList_abortList : (s.setHoldList x).abortList = s.abortList := rfl
@[simp] theorem setHoldList_parkLimit : (s.setHoldList x).parkLimit = s.parkLimit := rfl
@[simp] theorem setHoldList_slots : (s.setHoldList x).slots = s.slots := rfl
@[simp] theorem setHoldList_freeList : (s.setHoldList x).freeList = s.freeList := rfl
@[simp] theorem setHoldList_holdList : (s.setHoldList x).holdList = x := rfl
@[simp] theorem setHoldList_answerTimeout : (s.setHoldList x).answerTimeout = s.answerTimeout := rfl
@[simp] theorem setHoldList_meters : (s.setHoldList x).meters = s.meters := rfl
@[simp] theorem setHoldList_log : (s.setHoldList x).log = s.log := rfl
@[simp] theorem setHoldList_alert : (s.setHoldList x).alert = s.alert := rfl
@[simp] theorem setHoldList_longOp : (s.setHoldList x).longOp = s.longOp := rfl
@[simp] theorem setHoldList_replies : (s.setHoldList x).replies = s.replies := rfl
@[simp] theorem setHoldList_cPort : (s.setHoldList x).cPort = s.cPort := rfl
@[simp] theorem setHoldList_mPort : (s.setHoldList x).mPort = s.mPort := rfl
@[simp] theorem setHoldList_nextProducer : (s.setHoldList x).nextProducer = s.nextProducer := rfl
@[simp] theorem setHoldList_slotTriggerWaits : (s.setHoldList x).slotTriggerWaits = s.slotTriggerWaits := rfl
@[simp] theorem setHoldList_slotTriggersDue : (s.setHoldList x).slotTriggersDue = s.slotTriggersDue := rfl
end

section
variable (s : State) (x : Nat)
@[simp] theorem setAnswerTimeout_pending : (s.setAnswerTimeout x).pending = s.pending := rfl
@[simp] theorem setAnswerTimeout_inReset : (s.setAnswerTimeout x).inReset = s.inReset := rfl
@[simp] theorem setAnswerTimeout_straps : (s.setAnswerTimeout x).straps = s.straps := rfl
@[simp] theorem setAnswerTimeout_tick : (s.setAnswerTimeout x).tick = s.tick := rfl
@[simp] theorem setAnswerTimeout_mode : (s.setAnswerTimeout x).mode = s.mode := rfl
@[simp] theorem setAnswerTimeout_domains : (s.setAnswerTimeout x).domains = s.domains := rfl
@[simp] theorem setAnswerTimeout_windows : (s.setAnswerTimeout x).windows = s.windows := rfl
@[simp] theorem setAnswerTimeout_park : (s.setAnswerTimeout x).park = s.park := rfl
@[simp] theorem setAnswerTimeout_abortList : (s.setAnswerTimeout x).abortList = s.abortList := rfl
@[simp] theorem setAnswerTimeout_parkLimit : (s.setAnswerTimeout x).parkLimit = s.parkLimit := rfl
@[simp] theorem setAnswerTimeout_slots : (s.setAnswerTimeout x).slots = s.slots := rfl
@[simp] theorem setAnswerTimeout_freeList : (s.setAnswerTimeout x).freeList = s.freeList := rfl
@[simp] theorem setAnswerTimeout_holdList : (s.setAnswerTimeout x).holdList = s.holdList := rfl
@[simp] theorem setAnswerTimeout_answerTimeout : (s.setAnswerTimeout x).answerTimeout = x := rfl
@[simp] theorem setAnswerTimeout_meters : (s.setAnswerTimeout x).meters = s.meters := rfl
@[simp] theorem setAnswerTimeout_log : (s.setAnswerTimeout x).log = s.log := rfl
@[simp] theorem setAnswerTimeout_alert : (s.setAnswerTimeout x).alert = s.alert := rfl
@[simp] theorem setAnswerTimeout_longOp : (s.setAnswerTimeout x).longOp = s.longOp := rfl
@[simp] theorem setAnswerTimeout_replies : (s.setAnswerTimeout x).replies = s.replies := rfl
@[simp] theorem setAnswerTimeout_cPort : (s.setAnswerTimeout x).cPort = s.cPort := rfl
@[simp] theorem setAnswerTimeout_mPort : (s.setAnswerTimeout x).mPort = s.mPort := rfl
@[simp] theorem setAnswerTimeout_nextProducer : (s.setAnswerTimeout x).nextProducer = s.nextProducer := rfl
@[simp] theorem setAnswerTimeout_slotTriggerWaits : (s.setAnswerTimeout x).slotTriggerWaits = s.slotTriggerWaits := rfl
@[simp] theorem setAnswerTimeout_slotTriggersDue : (s.setAnswerTimeout x).slotTriggersDue = s.slotTriggersDue := rfl
end

section
variable (s : State) (x : Vector Meter 4)
@[simp] theorem setMeters_pending : (s.setMeters x).pending = s.pending := rfl
@[simp] theorem setMeters_inReset : (s.setMeters x).inReset = s.inReset := rfl
@[simp] theorem setMeters_straps : (s.setMeters x).straps = s.straps := rfl
@[simp] theorem setMeters_tick : (s.setMeters x).tick = s.tick := rfl
@[simp] theorem setMeters_mode : (s.setMeters x).mode = s.mode := rfl
@[simp] theorem setMeters_domains : (s.setMeters x).domains = s.domains := rfl
@[simp] theorem setMeters_windows : (s.setMeters x).windows = s.windows := rfl
@[simp] theorem setMeters_park : (s.setMeters x).park = s.park := rfl
@[simp] theorem setMeters_abortList : (s.setMeters x).abortList = s.abortList := rfl
@[simp] theorem setMeters_parkLimit : (s.setMeters x).parkLimit = s.parkLimit := rfl
@[simp] theorem setMeters_slots : (s.setMeters x).slots = s.slots := rfl
@[simp] theorem setMeters_freeList : (s.setMeters x).freeList = s.freeList := rfl
@[simp] theorem setMeters_holdList : (s.setMeters x).holdList = s.holdList := rfl
@[simp] theorem setMeters_answerTimeout : (s.setMeters x).answerTimeout = s.answerTimeout := rfl
@[simp] theorem setMeters_meters : (s.setMeters x).meters = x := rfl
@[simp] theorem setMeters_log : (s.setMeters x).log = s.log := rfl
@[simp] theorem setMeters_alert : (s.setMeters x).alert = s.alert := rfl
@[simp] theorem setMeters_longOp : (s.setMeters x).longOp = s.longOp := rfl
@[simp] theorem setMeters_replies : (s.setMeters x).replies = s.replies := rfl
@[simp] theorem setMeters_cPort : (s.setMeters x).cPort = s.cPort := rfl
@[simp] theorem setMeters_mPort : (s.setMeters x).mPort = s.mPort := rfl
@[simp] theorem setMeters_nextProducer : (s.setMeters x).nextProducer = s.nextProducer := rfl
@[simp] theorem setMeters_slotTriggerWaits : (s.setMeters x).slotTriggerWaits = s.slotTriggerWaits := rfl
@[simp] theorem setMeters_slotTriggersDue : (s.setMeters x).slotTriggersDue = s.slotTriggersDue := rfl
end

section
variable (s : State) (x : FaultLog)
@[simp] theorem setLog_pending : (s.setLog x).pending = s.pending := rfl
@[simp] theorem setLog_inReset : (s.setLog x).inReset = s.inReset := rfl
@[simp] theorem setLog_straps : (s.setLog x).straps = s.straps := rfl
@[simp] theorem setLog_tick : (s.setLog x).tick = s.tick := rfl
@[simp] theorem setLog_mode : (s.setLog x).mode = s.mode := rfl
@[simp] theorem setLog_domains : (s.setLog x).domains = s.domains := rfl
@[simp] theorem setLog_windows : (s.setLog x).windows = s.windows := rfl
@[simp] theorem setLog_park : (s.setLog x).park = s.park := rfl
@[simp] theorem setLog_abortList : (s.setLog x).abortList = s.abortList := rfl
@[simp] theorem setLog_parkLimit : (s.setLog x).parkLimit = s.parkLimit := rfl
@[simp] theorem setLog_slots : (s.setLog x).slots = s.slots := rfl
@[simp] theorem setLog_freeList : (s.setLog x).freeList = s.freeList := rfl
@[simp] theorem setLog_holdList : (s.setLog x).holdList = s.holdList := rfl
@[simp] theorem setLog_answerTimeout : (s.setLog x).answerTimeout = s.answerTimeout := rfl
@[simp] theorem setLog_meters : (s.setLog x).meters = s.meters := rfl
@[simp] theorem setLog_log : (s.setLog x).log = x := rfl
@[simp] theorem setLog_alert : (s.setLog x).alert = s.alert := rfl
@[simp] theorem setLog_longOp : (s.setLog x).longOp = s.longOp := rfl
@[simp] theorem setLog_replies : (s.setLog x).replies = s.replies := rfl
@[simp] theorem setLog_cPort : (s.setLog x).cPort = s.cPort := rfl
@[simp] theorem setLog_mPort : (s.setLog x).mPort = s.mPort := rfl
@[simp] theorem setLog_nextProducer : (s.setLog x).nextProducer = s.nextProducer := rfl
@[simp] theorem setLog_slotTriggerWaits : (s.setLog x).slotTriggerWaits = s.slotTriggerWaits := rfl
@[simp] theorem setLog_slotTriggersDue : (s.setLog x).slotTriggersDue = s.slotTriggersDue := rfl
end

section
variable (s : State) (x : AlertCtl)
@[simp] theorem setAlert_pending : (s.setAlert x).pending = s.pending := rfl
@[simp] theorem setAlert_inReset : (s.setAlert x).inReset = s.inReset := rfl
@[simp] theorem setAlert_straps : (s.setAlert x).straps = s.straps := rfl
@[simp] theorem setAlert_tick : (s.setAlert x).tick = s.tick := rfl
@[simp] theorem setAlert_mode : (s.setAlert x).mode = s.mode := rfl
@[simp] theorem setAlert_domains : (s.setAlert x).domains = s.domains := rfl
@[simp] theorem setAlert_windows : (s.setAlert x).windows = s.windows := rfl
@[simp] theorem setAlert_park : (s.setAlert x).park = s.park := rfl
@[simp] theorem setAlert_abortList : (s.setAlert x).abortList = s.abortList := rfl
@[simp] theorem setAlert_parkLimit : (s.setAlert x).parkLimit = s.parkLimit := rfl
@[simp] theorem setAlert_slots : (s.setAlert x).slots = s.slots := rfl
@[simp] theorem setAlert_freeList : (s.setAlert x).freeList = s.freeList := rfl
@[simp] theorem setAlert_holdList : (s.setAlert x).holdList = s.holdList := rfl
@[simp] theorem setAlert_answerTimeout : (s.setAlert x).answerTimeout = s.answerTimeout := rfl
@[simp] theorem setAlert_meters : (s.setAlert x).meters = s.meters := rfl
@[simp] theorem setAlert_log : (s.setAlert x).log = s.log := rfl
@[simp] theorem setAlert_alert : (s.setAlert x).alert = x := rfl
@[simp] theorem setAlert_longOp : (s.setAlert x).longOp = s.longOp := rfl
@[simp] theorem setAlert_replies : (s.setAlert x).replies = s.replies := rfl
@[simp] theorem setAlert_cPort : (s.setAlert x).cPort = s.cPort := rfl
@[simp] theorem setAlert_mPort : (s.setAlert x).mPort = s.mPort := rfl
@[simp] theorem setAlert_nextProducer : (s.setAlert x).nextProducer = s.nextProducer := rfl
@[simp] theorem setAlert_slotTriggerWaits : (s.setAlert x).slotTriggerWaits = s.slotTriggerWaits := rfl
@[simp] theorem setAlert_slotTriggersDue : (s.setAlert x).slotTriggersDue = s.slotTriggersDue := rfl
end

section
variable (s : State) (x : LongOp)
@[simp] theorem setLongOp_pending : (s.setLongOp x).pending = s.pending := rfl
@[simp] theorem setLongOp_inReset : (s.setLongOp x).inReset = s.inReset := rfl
@[simp] theorem setLongOp_straps : (s.setLongOp x).straps = s.straps := rfl
@[simp] theorem setLongOp_tick : (s.setLongOp x).tick = s.tick := rfl
@[simp] theorem setLongOp_mode : (s.setLongOp x).mode = s.mode := rfl
@[simp] theorem setLongOp_domains : (s.setLongOp x).domains = s.domains := rfl
@[simp] theorem setLongOp_windows : (s.setLongOp x).windows = s.windows := rfl
@[simp] theorem setLongOp_park : (s.setLongOp x).park = s.park := rfl
@[simp] theorem setLongOp_abortList : (s.setLongOp x).abortList = s.abortList := rfl
@[simp] theorem setLongOp_parkLimit : (s.setLongOp x).parkLimit = s.parkLimit := rfl
@[simp] theorem setLongOp_slots : (s.setLongOp x).slots = s.slots := rfl
@[simp] theorem setLongOp_freeList : (s.setLongOp x).freeList = s.freeList := rfl
@[simp] theorem setLongOp_holdList : (s.setLongOp x).holdList = s.holdList := rfl
@[simp] theorem setLongOp_answerTimeout : (s.setLongOp x).answerTimeout = s.answerTimeout := rfl
@[simp] theorem setLongOp_meters : (s.setLongOp x).meters = s.meters := rfl
@[simp] theorem setLongOp_log : (s.setLongOp x).log = s.log := rfl
@[simp] theorem setLongOp_alert : (s.setLongOp x).alert = s.alert := rfl
@[simp] theorem setLongOp_longOp : (s.setLongOp x).longOp = x := rfl
@[simp] theorem setLongOp_replies : (s.setLongOp x).replies = s.replies := rfl
@[simp] theorem setLongOp_cPort : (s.setLongOp x).cPort = s.cPort := rfl
@[simp] theorem setLongOp_mPort : (s.setLongOp x).mPort = s.mPort := rfl
@[simp] theorem setLongOp_nextProducer : (s.setLongOp x).nextProducer = s.nextProducer := rfl
@[simp] theorem setLongOp_slotTriggerWaits : (s.setLongOp x).slotTriggerWaits = s.slotTriggerWaits := rfl
@[simp] theorem setLongOp_slotTriggersDue : (s.setLongOp x).slotTriggersDue = s.slotTriggersDue := rfl
end

section
variable (s : State) (x : List Reply)
@[simp] theorem setReplies_pending : (s.setReplies x).pending = s.pending := rfl
@[simp] theorem setReplies_inReset : (s.setReplies x).inReset = s.inReset := rfl
@[simp] theorem setReplies_straps : (s.setReplies x).straps = s.straps := rfl
@[simp] theorem setReplies_tick : (s.setReplies x).tick = s.tick := rfl
@[simp] theorem setReplies_mode : (s.setReplies x).mode = s.mode := rfl
@[simp] theorem setReplies_domains : (s.setReplies x).domains = s.domains := rfl
@[simp] theorem setReplies_windows : (s.setReplies x).windows = s.windows := rfl
@[simp] theorem setReplies_park : (s.setReplies x).park = s.park := rfl
@[simp] theorem setReplies_abortList : (s.setReplies x).abortList = s.abortList := rfl
@[simp] theorem setReplies_parkLimit : (s.setReplies x).parkLimit = s.parkLimit := rfl
@[simp] theorem setReplies_slots : (s.setReplies x).slots = s.slots := rfl
@[simp] theorem setReplies_freeList : (s.setReplies x).freeList = s.freeList := rfl
@[simp] theorem setReplies_holdList : (s.setReplies x).holdList = s.holdList := rfl
@[simp] theorem setReplies_answerTimeout : (s.setReplies x).answerTimeout = s.answerTimeout := rfl
@[simp] theorem setReplies_meters : (s.setReplies x).meters = s.meters := rfl
@[simp] theorem setReplies_log : (s.setReplies x).log = s.log := rfl
@[simp] theorem setReplies_alert : (s.setReplies x).alert = s.alert := rfl
@[simp] theorem setReplies_longOp : (s.setReplies x).longOp = s.longOp := rfl
@[simp] theorem setReplies_replies : (s.setReplies x).replies = x := rfl
@[simp] theorem setReplies_cPort : (s.setReplies x).cPort = s.cPort := rfl
@[simp] theorem setReplies_mPort : (s.setReplies x).mPort = s.mPort := rfl
@[simp] theorem setReplies_nextProducer : (s.setReplies x).nextProducer = s.nextProducer := rfl
@[simp] theorem setReplies_slotTriggerWaits : (s.setReplies x).slotTriggerWaits = s.slotTriggerWaits := rfl
@[simp] theorem setReplies_slotTriggersDue : (s.setReplies x).slotTriggersDue = s.slotTriggersDue := rfl
end

section
variable (s : State) (x : PortState)
@[simp] theorem setCPort_pending : (s.setCPort x).pending = s.pending := rfl
@[simp] theorem setCPort_inReset : (s.setCPort x).inReset = s.inReset := rfl
@[simp] theorem setCPort_straps : (s.setCPort x).straps = s.straps := rfl
@[simp] theorem setCPort_tick : (s.setCPort x).tick = s.tick := rfl
@[simp] theorem setCPort_mode : (s.setCPort x).mode = s.mode := rfl
@[simp] theorem setCPort_domains : (s.setCPort x).domains = s.domains := rfl
@[simp] theorem setCPort_windows : (s.setCPort x).windows = s.windows := rfl
@[simp] theorem setCPort_park : (s.setCPort x).park = s.park := rfl
@[simp] theorem setCPort_abortList : (s.setCPort x).abortList = s.abortList := rfl
@[simp] theorem setCPort_parkLimit : (s.setCPort x).parkLimit = s.parkLimit := rfl
@[simp] theorem setCPort_slots : (s.setCPort x).slots = s.slots := rfl
@[simp] theorem setCPort_freeList : (s.setCPort x).freeList = s.freeList := rfl
@[simp] theorem setCPort_holdList : (s.setCPort x).holdList = s.holdList := rfl
@[simp] theorem setCPort_answerTimeout : (s.setCPort x).answerTimeout = s.answerTimeout := rfl
@[simp] theorem setCPort_meters : (s.setCPort x).meters = s.meters := rfl
@[simp] theorem setCPort_log : (s.setCPort x).log = s.log := rfl
@[simp] theorem setCPort_alert : (s.setCPort x).alert = s.alert := rfl
@[simp] theorem setCPort_longOp : (s.setCPort x).longOp = s.longOp := rfl
@[simp] theorem setCPort_replies : (s.setCPort x).replies = s.replies := rfl
@[simp] theorem setCPort_cPort : (s.setCPort x).cPort = x := rfl
@[simp] theorem setCPort_mPort : (s.setCPort x).mPort = s.mPort := rfl
@[simp] theorem setCPort_nextProducer : (s.setCPort x).nextProducer = s.nextProducer := rfl
@[simp] theorem setCPort_slotTriggerWaits : (s.setCPort x).slotTriggerWaits = s.slotTriggerWaits := rfl
@[simp] theorem setCPort_slotTriggersDue : (s.setCPort x).slotTriggersDue = s.slotTriggersDue := rfl
end

section
variable (s : State) (x : PortState)
@[simp] theorem setMPort_pending : (s.setMPort x).pending = s.pending := rfl
@[simp] theorem setMPort_inReset : (s.setMPort x).inReset = s.inReset := rfl
@[simp] theorem setMPort_straps : (s.setMPort x).straps = s.straps := rfl
@[simp] theorem setMPort_tick : (s.setMPort x).tick = s.tick := rfl
@[simp] theorem setMPort_mode : (s.setMPort x).mode = s.mode := rfl
@[simp] theorem setMPort_domains : (s.setMPort x).domains = s.domains := rfl
@[simp] theorem setMPort_windows : (s.setMPort x).windows = s.windows := rfl
@[simp] theorem setMPort_park : (s.setMPort x).park = s.park := rfl
@[simp] theorem setMPort_abortList : (s.setMPort x).abortList = s.abortList := rfl
@[simp] theorem setMPort_parkLimit : (s.setMPort x).parkLimit = s.parkLimit := rfl
@[simp] theorem setMPort_slots : (s.setMPort x).slots = s.slots := rfl
@[simp] theorem setMPort_freeList : (s.setMPort x).freeList = s.freeList := rfl
@[simp] theorem setMPort_holdList : (s.setMPort x).holdList = s.holdList := rfl
@[simp] theorem setMPort_answerTimeout : (s.setMPort x).answerTimeout = s.answerTimeout := rfl
@[simp] theorem setMPort_meters : (s.setMPort x).meters = s.meters := rfl
@[simp] theorem setMPort_log : (s.setMPort x).log = s.log := rfl
@[simp] theorem setMPort_alert : (s.setMPort x).alert = s.alert := rfl
@[simp] theorem setMPort_longOp : (s.setMPort x).longOp = s.longOp := rfl
@[simp] theorem setMPort_replies : (s.setMPort x).replies = s.replies := rfl
@[simp] theorem setMPort_cPort : (s.setMPort x).cPort = s.cPort := rfl
@[simp] theorem setMPort_mPort : (s.setMPort x).mPort = x := rfl
@[simp] theorem setMPort_nextProducer : (s.setMPort x).nextProducer = s.nextProducer := rfl
@[simp] theorem setMPort_slotTriggerWaits : (s.setMPort x).slotTriggerWaits = s.slotTriggerWaits := rfl
@[simp] theorem setMPort_slotTriggersDue : (s.setMPort x).slotTriggersDue = s.slotTriggersDue := rfl
end

section
variable (s : State) (x : Producer)
@[simp] theorem setNextProducer_pending : (s.setNextProducer x).pending = s.pending := rfl
@[simp] theorem setNextProducer_inReset : (s.setNextProducer x).inReset = s.inReset := rfl
@[simp] theorem setNextProducer_straps : (s.setNextProducer x).straps = s.straps := rfl
@[simp] theorem setNextProducer_tick : (s.setNextProducer x).tick = s.tick := rfl
@[simp] theorem setNextProducer_mode : (s.setNextProducer x).mode = s.mode := rfl
@[simp] theorem setNextProducer_domains : (s.setNextProducer x).domains = s.domains := rfl
@[simp] theorem setNextProducer_windows : (s.setNextProducer x).windows = s.windows := rfl
@[simp] theorem setNextProducer_park : (s.setNextProducer x).park = s.park := rfl
@[simp] theorem setNextProducer_abortList : (s.setNextProducer x).abortList = s.abortList := rfl
@[simp] theorem setNextProducer_parkLimit : (s.setNextProducer x).parkLimit = s.parkLimit := rfl
@[simp] theorem setNextProducer_slots : (s.setNextProducer x).slots = s.slots := rfl
@[simp] theorem setNextProducer_freeList : (s.setNextProducer x).freeList = s.freeList := rfl
@[simp] theorem setNextProducer_holdList : (s.setNextProducer x).holdList = s.holdList := rfl
@[simp] theorem setNextProducer_answerTimeout : (s.setNextProducer x).answerTimeout = s.answerTimeout := rfl
@[simp] theorem setNextProducer_meters : (s.setNextProducer x).meters = s.meters := rfl
@[simp] theorem setNextProducer_log : (s.setNextProducer x).log = s.log := rfl
@[simp] theorem setNextProducer_alert : (s.setNextProducer x).alert = s.alert := rfl
@[simp] theorem setNextProducer_longOp : (s.setNextProducer x).longOp = s.longOp := rfl
@[simp] theorem setNextProducer_replies : (s.setNextProducer x).replies = s.replies := rfl
@[simp] theorem setNextProducer_cPort : (s.setNextProducer x).cPort = s.cPort := rfl
@[simp] theorem setNextProducer_mPort : (s.setNextProducer x).mPort = s.mPort := rfl
@[simp] theorem setNextProducer_nextProducer : (s.setNextProducer x).nextProducer = x := rfl
@[simp] theorem setNextProducer_slotTriggerWaits : (s.setNextProducer x).slotTriggerWaits = s.slotTriggerWaits := rfl
@[simp] theorem setNextProducer_slotTriggersDue : (s.setNextProducer x).slotTriggersDue = s.slotTriggersDue := rfl
end

section
variable (s : State) (x : Nat)
@[simp] theorem setSlotTriggersDue_pending : (s.setSlotTriggersDue x).pending = s.pending := rfl
@[simp] theorem setSlotTriggersDue_inReset : (s.setSlotTriggersDue x).inReset = s.inReset := rfl
@[simp] theorem setSlotTriggersDue_straps : (s.setSlotTriggersDue x).straps = s.straps := rfl
@[simp] theorem setSlotTriggersDue_tick : (s.setSlotTriggersDue x).tick = s.tick := rfl
@[simp] theorem setSlotTriggersDue_mode : (s.setSlotTriggersDue x).mode = s.mode := rfl
@[simp] theorem setSlotTriggersDue_domains : (s.setSlotTriggersDue x).domains = s.domains := rfl
@[simp] theorem setSlotTriggersDue_windows : (s.setSlotTriggersDue x).windows = s.windows := rfl
@[simp] theorem setSlotTriggersDue_park : (s.setSlotTriggersDue x).park = s.park := rfl
@[simp] theorem setSlotTriggersDue_abortList : (s.setSlotTriggersDue x).abortList = s.abortList := rfl
@[simp] theorem setSlotTriggersDue_parkLimit : (s.setSlotTriggersDue x).parkLimit = s.parkLimit := rfl
@[simp] theorem setSlotTriggersDue_slots : (s.setSlotTriggersDue x).slots = s.slots := rfl
@[simp] theorem setSlotTriggersDue_freeList : (s.setSlotTriggersDue x).freeList = s.freeList := rfl
@[simp] theorem setSlotTriggersDue_holdList : (s.setSlotTriggersDue x).holdList = s.holdList := rfl
@[simp] theorem setSlotTriggersDue_answerTimeout : (s.setSlotTriggersDue x).answerTimeout = s.answerTimeout := rfl
@[simp] theorem setSlotTriggersDue_meters : (s.setSlotTriggersDue x).meters = s.meters := rfl
@[simp] theorem setSlotTriggersDue_log : (s.setSlotTriggersDue x).log = s.log := rfl
@[simp] theorem setSlotTriggersDue_alert : (s.setSlotTriggersDue x).alert = s.alert := rfl
@[simp] theorem setSlotTriggersDue_longOp : (s.setSlotTriggersDue x).longOp = s.longOp := rfl
@[simp] theorem setSlotTriggersDue_replies : (s.setSlotTriggersDue x).replies = s.replies := rfl
@[simp] theorem setSlotTriggersDue_cPort : (s.setSlotTriggersDue x).cPort = s.cPort := rfl
@[simp] theorem setSlotTriggersDue_mPort : (s.setSlotTriggersDue x).mPort = s.mPort := rfl
@[simp] theorem setSlotTriggersDue_nextProducer : (s.setSlotTriggersDue x).nextProducer = s.nextProducer := rfl
@[simp] theorem setSlotTriggersDue_slotTriggerWaits : (s.setSlotTriggersDue x).slotTriggerWaits = s.slotTriggerWaits := rfl
@[simp] theorem setSlotTriggersDue_slotTriggersDue : (s.setSlotTriggersDue x).slotTriggersDue = x := rfl
end

section
variable (s : State) (i : Fin 64) (e : WindowEntry)
@[simp] theorem setWindow_pending : (s.setWindow i e).pending = s.pending := rfl
@[simp] theorem setWindow_inReset : (s.setWindow i e).inReset = s.inReset := rfl
@[simp] theorem setWindow_straps : (s.setWindow i e).straps = s.straps := rfl
@[simp] theorem setWindow_tick : (s.setWindow i e).tick = s.tick := rfl
@[simp] theorem setWindow_mode : (s.setWindow i e).mode = s.mode := rfl
@[simp] theorem setWindow_domains : (s.setWindow i e).domains = s.domains := rfl
@[simp] theorem setWindow_windows : (s.setWindow i e).windows = setAt s.windows i e := rfl
@[simp] theorem setWindow_park : (s.setWindow i e).park = s.park := rfl
@[simp] theorem setWindow_abortList : (s.setWindow i e).abortList = s.abortList := rfl
@[simp] theorem setWindow_parkLimit : (s.setWindow i e).parkLimit = s.parkLimit := rfl
@[simp] theorem setWindow_slots : (s.setWindow i e).slots = s.slots := rfl
@[simp] theorem setWindow_freeList : (s.setWindow i e).freeList = s.freeList := rfl
@[simp] theorem setWindow_holdList : (s.setWindow i e).holdList = s.holdList := rfl
@[simp] theorem setWindow_answerTimeout : (s.setWindow i e).answerTimeout = s.answerTimeout := rfl
@[simp] theorem setWindow_meters : (s.setWindow i e).meters = s.meters := rfl
@[simp] theorem setWindow_log : (s.setWindow i e).log = s.log := rfl
@[simp] theorem setWindow_alert : (s.setWindow i e).alert = s.alert := rfl
@[simp] theorem setWindow_longOp : (s.setWindow i e).longOp = s.longOp := rfl
@[simp] theorem setWindow_replies : (s.setWindow i e).replies = s.replies := rfl
@[simp] theorem setWindow_cPort : (s.setWindow i e).cPort = s.cPort := rfl
@[simp] theorem setWindow_mPort : (s.setWindow i e).mPort = s.mPort := rfl
@[simp] theorem setWindow_nextProducer : (s.setWindow i e).nextProducer = s.nextProducer := rfl
@[simp] theorem setWindow_slotTriggerWaits : (s.setWindow i e).slotTriggerWaits = s.slotTriggerWaits := rfl
@[simp] theorem setWindow_slotTriggersDue : (s.setWindow i e).slotTriggersDue = s.slotTriggersDue := rfl
end

section
variable (s : State) (i : Fin 32) (e : Slot)
@[simp] theorem setSlot_pending : (s.setSlot i e).pending = s.pending := rfl
@[simp] theorem setSlot_inReset : (s.setSlot i e).inReset = s.inReset := rfl
@[simp] theorem setSlot_straps : (s.setSlot i e).straps = s.straps := rfl
@[simp] theorem setSlot_tick : (s.setSlot i e).tick = s.tick := rfl
@[simp] theorem setSlot_mode : (s.setSlot i e).mode = s.mode := rfl
@[simp] theorem setSlot_domains : (s.setSlot i e).domains = s.domains := rfl
@[simp] theorem setSlot_windows : (s.setSlot i e).windows = s.windows := rfl
@[simp] theorem setSlot_park : (s.setSlot i e).park = s.park := rfl
@[simp] theorem setSlot_abortList : (s.setSlot i e).abortList = s.abortList := rfl
@[simp] theorem setSlot_parkLimit : (s.setSlot i e).parkLimit = s.parkLimit := rfl
@[simp] theorem setSlot_slots : (s.setSlot i e).slots = setAt s.slots i e := rfl
@[simp] theorem setSlot_freeList : (s.setSlot i e).freeList = s.freeList := rfl
@[simp] theorem setSlot_holdList : (s.setSlot i e).holdList = s.holdList := rfl
@[simp] theorem setSlot_answerTimeout : (s.setSlot i e).answerTimeout = s.answerTimeout := rfl
@[simp] theorem setSlot_meters : (s.setSlot i e).meters = s.meters := rfl
@[simp] theorem setSlot_log : (s.setSlot i e).log = s.log := rfl
@[simp] theorem setSlot_alert : (s.setSlot i e).alert = s.alert := rfl
@[simp] theorem setSlot_longOp : (s.setSlot i e).longOp = s.longOp := rfl
@[simp] theorem setSlot_replies : (s.setSlot i e).replies = s.replies := rfl
@[simp] theorem setSlot_cPort : (s.setSlot i e).cPort = s.cPort := rfl
@[simp] theorem setSlot_mPort : (s.setSlot i e).mPort = s.mPort := rfl
@[simp] theorem setSlot_nextProducer : (s.setSlot i e).nextProducer = s.nextProducer := rfl
@[simp] theorem setSlot_slotTriggerWaits : (s.setSlot i e).slotTriggerWaits = s.slotTriggerWaits := rfl
@[simp] theorem setSlot_slotTriggersDue : (s.setSlot i e).slotTriggersDue = s.slotTriggersDue := rfl
end

section
variable (s : State) (i : Fin 4) (e : Meter)
@[simp] theorem setMeter_pending : (s.setMeter i e).pending = s.pending := rfl
@[simp] theorem setMeter_inReset : (s.setMeter i e).inReset = s.inReset := rfl
@[simp] theorem setMeter_straps : (s.setMeter i e).straps = s.straps := rfl
@[simp] theorem setMeter_tick : (s.setMeter i e).tick = s.tick := rfl
@[simp] theorem setMeter_mode : (s.setMeter i e).mode = s.mode := rfl
@[simp] theorem setMeter_domains : (s.setMeter i e).domains = s.domains := rfl
@[simp] theorem setMeter_windows : (s.setMeter i e).windows = s.windows := rfl
@[simp] theorem setMeter_park : (s.setMeter i e).park = s.park := rfl
@[simp] theorem setMeter_abortList : (s.setMeter i e).abortList = s.abortList := rfl
@[simp] theorem setMeter_parkLimit : (s.setMeter i e).parkLimit = s.parkLimit := rfl
@[simp] theorem setMeter_slots : (s.setMeter i e).slots = s.slots := rfl
@[simp] theorem setMeter_freeList : (s.setMeter i e).freeList = s.freeList := rfl
@[simp] theorem setMeter_holdList : (s.setMeter i e).holdList = s.holdList := rfl
@[simp] theorem setMeter_answerTimeout : (s.setMeter i e).answerTimeout = s.answerTimeout := rfl
@[simp] theorem setMeter_meters : (s.setMeter i e).meters = setAt s.meters i e := rfl
@[simp] theorem setMeter_log : (s.setMeter i e).log = s.log := rfl
@[simp] theorem setMeter_alert : (s.setMeter i e).alert = s.alert := rfl
@[simp] theorem setMeter_longOp : (s.setMeter i e).longOp = s.longOp := rfl
@[simp] theorem setMeter_replies : (s.setMeter i e).replies = s.replies := rfl
@[simp] theorem setMeter_cPort : (s.setMeter i e).cPort = s.cPort := rfl
@[simp] theorem setMeter_mPort : (s.setMeter i e).mPort = s.mPort := rfl
@[simp] theorem setMeter_nextProducer : (s.setMeter i e).nextProducer = s.nextProducer := rfl
@[simp] theorem setMeter_slotTriggerWaits : (s.setMeter i e).slotTriggerWaits = s.slotTriggerWaits := rfl
@[simp] theorem setMeter_slotTriggersDue : (s.setMeter i e).slotTriggersDue = s.slotTriggersDue := rfl
end

section
variable (s : State) (x : PortState)
@[simp] theorem setPort_c : s.setPort .c x = s.setCPort x := rfl
@[simp] theorem setPort_m : s.setPort .m x = s.setMPort x := rfl
@[simp] theorem port_c : s.port .c = s.cPort := rfl
@[simp] theorem port_m : s.port .m = s.mPort := rfl
end

end Sys2Proof.Machine.State
end

