-- ==== Sys2Proof/Laws/Tables.lean ====
section
/-! SUPPORT. The laws of the tables: what reads back after an update, and what the searches find. -/

namespace Sys2Proof.Machine

variable {α : Type} {n : Nat}

/-- Reading at a number: the new record at the index replaced, the old one elsewhere. -/
@[simp] theorem setAt_getElem (v : Vector α n) (i : Fin n) (x : α) (k : Nat) (hk : k < n) :
    (setAt v i x)[k] = if i.val = k then x else v[k] :=
  Vector.getElem_set i.isLt hk

theorem setAt_get_same (v : Vector α n) (i : Fin n) (x : α) : (setAt v i x)[i] = x := by simp

theorem setAt_get (v : Vector α n) (i j : Fin n) (x : α) :
    (setAt v i x)[j] = if j = i then x else v[j] := by
  simp only [Fin.getElem_fin, setAt_getElem]
  exact if_congr ⟨fun h => (Fin.ext h).symm, fun h => h ▸ rfl⟩ rfl rfl

theorem setAt_get_ne (v : Vector α n) {i j : Fin n} (x : α) (h : j ≠ i) : (setAt v i x)[j] = v[j] := by
  rw [setAt_get, if_neg h]

@[simp] theorem mapTable_getElem (f : α → α) (v : Vector α n) (k : Nat) (hk : k < n) :
    (mapTable f v)[k] = f v[k] := by
  simp [mapTable]

theorem mapTable_get (f : α → α) (v : Vector α n) (i : Fin n) : (mapTable f v)[i] = f v[i] := by simp

theorem replicate_get (x : α) (i : Fin n) : (Vector.replicate n x)[i] = x := by simp

/-- A table's records in index order. -/
theorem toList_eq_map (v : Vector α n) : v.toList = (List.finRange n).map fun i => v[i] := by
  apply List.ext_getElem <;> simp

theorem anyTable_iff (p : α → Bool) (v : Vector α n) : anyTable p v = true ↔ ∃ i : Fin n, p v[i] = true := by
  simp [anyTable, toList_eq_map]

theorem anyTable_eq_false (p : α → Bool) (v : Vector α n) :
    anyTable p v = false ↔ ∀ i : Fin n, p v[i] = false := by
  rw [← Bool.not_eq_true, anyTable_iff]; simp

theorem countTable_eq (p : α → Bool) (v : Vector α n) :
    countTable p v = (List.finRange n).countP fun i => p v[i] := by
  simp [countTable, toList_eq_map, List.countP_map]; rfl

/-- Counting over indexes splits at one of them. -/
theorem countP_finRange_split (q : Fin n → Bool) (i : Fin n) :
    (List.finRange n).countP q = (List.finRange n).countP (fun j => decide (j ≠ i) && q j) + (q i).toNat := by
  have key : ∀ l : List (Fin n), l.Nodup →
      l.countP q = l.countP (fun j => decide (j ≠ i) && q j) + if i ∈ l then (q i).toNat else 0 := by
    intro l
    induction l with
    | nil => simp
    | cons a l ih =>
      intro h
      obtain ⟨ha, hl⟩ := List.nodup_cons.mp h
      by_cases e : a = i
      · subst e
        have := ih hl
        simp only [if_neg ha] at this
        cases hq : q a <;> simp [hq, this]
      · have e' : i ≠ a := fun x => e x.symm
        cases hq : q a <;> simp [hq, ih hl, e, e'] <;> omega
  simpa using key _ (List.nodup_finRange n)

/-- A count after one record is replaced: the other records count as before. -/
theorem countTable_setAt (p : α → Bool) (v : Vector α n) (i : Fin n) (x : α) :
    countTable p (setAt v i x) + (p v[i]).toNat = countTable p v + (p x).toNat := by
  rw [countTable_eq, countTable_eq, countP_finRange_split _ i,
    countP_finRange_split (fun j => p v[j]) i]
  have : (List.finRange n).countP (fun j => decide (j ≠ i) && p (setAt v i x)[j])
      = (List.finRange n).countP (fun j => decide (j ≠ i) && p v[j]) := by
    apply List.countP_congr
    intro j _
    by_cases h : j = i
    · simp [h]
    · simp only [setAt_get_ne v x h]
  rw [this, setAt_get_same]
  omega

theorem findIndex_some {p : α → Bool} {v : Vector α n} {i : Fin n} (h : findIndex p v = some i) :
    p v[i] = true := by
  simpa using List.find?_some h

theorem findIndex_none {p : α → Bool} {v : Vector α n} (h : findIndex p v = none) (i : Fin n) :
    p v[i] = false := by
  have := List.find?_eq_none.mp h i (List.mem_finRange i)
  simpa using this

/-- Where exactly one record satisfies the test, the search finds it. -/
theorem findIndex_unique {p : α → Bool} {v : Vector α n} {i : Fin n} (hi : p v[i] = true)
    (hu : ∀ j : Fin n, p v[j] = true → j = i) : findIndex p v = some i := by
  cases h : findIndex p v with
  | none => rw [findIndex_none h i] at hi; cases hi
  | some j => rw [hu j (findIndex_some h)]

end Sys2Proof.Machine
end

