-- ==== Sys2Proof/Laws/Trigger.lean ====
section
/-! SUPPORT. Induction over triggers: what one re-admission run keeps, a cascade and a trigger keep. -/

namespace Sys2Proof.Machine

/-- With no place used, a place is free as it stands. -/
@[simp] theorem cFreeBeside_zero (s : State) : s.cFreeBeside 0 = s.cFree := rfl

/-- A place that is free beside those the event has used is free. -/
theorem cFree_of_cFreeBeside {s : State} {used : Nat} (h : s.cFreeBeside used = true) : s.cFree = true := by
  simp only [State.cFreeBeside, State.cFree, Bool.or_eq_true, decide_eq_true_eq] at h ⊢
  exact h.imp_right fun n => Nat.lt_of_le_of_lt (Nat.le_add_right _ _) n

theorem readmit_keeps {P : State → Prop} (one : ∀ it s u, it ∈ s.park → P s → P (readmitOnce it s u).1) (used : Nat) :
    ∀ (fuel serial : Nat) (s : State), P s → P (readmit fuel serial s used) := by
  intro fuel
  induction fuel with
  | zero => intro _ s h; exact h
  | succ n ih =>
    intro serial s h
    unfold readmit
    split
    · exact h
    · rename_i it hit
      have hmem : it ∈ s.park := List.mem_of_find?_eq_some hit
      have h1 := one it s used hmem h
      dsimp only
      split
      · split
        · exact ih _ _ h1
        · exact h1
      · exact h1

theorem behindTrigger_keeps {P : State → Prop} (one : ∀ it s u, it ∈ s.park → P s → P (readmitOnce it s u).1)
    (src : SourceId) (used : Nat) (s : State) (h : P s) : P (behindTrigger src s used) := by
  unfold behindTrigger
  split
  · exact readmit_keeps one used _ _ _ h
  · exact h

theorem triggerTurn_keeps {P : State → Prop} (one : ∀ it s u, it ∈ s.park → P s → P (readmitOnce it s u).1)
    (hits : ParkReason → Bool) (s : State) (serial : Nat) (h : P s) : P (triggerTurn hits s serial) := by
  unfold triggerTurn
  split
  · split
    · exact readmit_keeps one _ _ _ _ h
    · exact h
  · exact h

/-- A fold keeps what each of its turns keeps. -/
theorem foldl_keeps {α : Type} {P : State → Prop} {f : State → α → State} (turn : ∀ s x, P s → P (f s x)) :
    ∀ (l : List α) (s : State), P s → P (l.foldl f s) := by
  intro l
  induction l with
  | nil => intro s h; exact h
  | cons x l ih => intro s h; exact ih _ (turn s x h)

theorem trigger_keeps {P : State → Prop} (one : ∀ it s u, it ∈ s.park → P s → P (readmitOnce it s u).1)
    (hits : ParkReason → Bool) (s : State) (h : P s) : P (trigger hits s) :=
  foldl_keeps (triggerTurn_keeps one hits) _ s h

/-- A quantity that one re-admission run leaves is left by a trigger. -/
theorem trigger_frame {α : Type} {f : State → α} (one : ∀ it s u, it ∈ s.park → f (readmitOnce it s u).1 = f s)
    (hits : ParkReason → Bool) (s : State) : f (trigger hits s) = f s :=
  trigger_keeps (P := fun t => f t = f s) (fun it t u m h => (one it t u m).trans h) hits s rfl

/-- A quantity that one re-admission run leaves is left by a BEHIND trigger. -/
theorem behindTrigger_frame {α : Type} {f : State → α}
    (one : ∀ it s u, it ∈ s.park → f (readmitOnce it s u).1 = f s) (src : SourceId) (used : Nat)
    (s : State) : f (behindTrigger src s used) = f s :=
  behindTrigger_keeps (P := fun t => f t = f s) (fun it t u m h => (one it t u m).trans h) src used s rfl

/-- A trigger that no item waits for changes nothing. -/
theorem trigger_of_no_item {hits : ParkReason → Bool} {s : State}
    (h : ∀ it ∈ s.park, it.waitsFor hits = false) : trigger hits s = s := by
  have : s.park.filter (ParkItem.waitsFor hits) = [] := by
    rw [List.filter_eq_nil_iff]; intro it hit; simp [h it hit]
  simp [trigger, this]

/-- A trigger finds no item in an empty queue. -/
theorem trigger_of_empty {hits : ParkReason → Bool} {s : State} (h : s.park = []) : trigger hits s = s :=
  trigger_of_no_item (by simp [h])

/-- A SLOT trigger that does not wait is taken within its event. -/
theorem slotTrigger_at_once {s : State} (h : s.slotTriggerWaits = false) : slotTrigger s = trigger (· == .slot) s := by
  simp [slotTrigger, h]

/-- A SLOT trigger that waits is one more that is due, and nothing else changes. -/
theorem slotTrigger_waits {s : State} (h : s.slotTriggerWaits = true) :
    slotTrigger s = s.setSlotTriggersDue (s.slotTriggersDue + 1) := by
  simp [slotTrigger, h]

/-- With no SLOT trigger due there is none to take. -/
theorem takeDueTrigger_of_none {s : State} (h : s.slotTriggersDue = 0) : takeDueTrigger s = s := by
  simp [takeDueTrigger, h]

/-- A due SLOT trigger that is taken leaves one less. -/
theorem takeDueTrigger_of_due {s : State} (h : s.slotTriggersDue ≠ 0) :
    takeDueTrigger s = trigger (· == .slot) (s.setSlotTriggersDue (s.slotTriggersDue - 1)) := by
  simp [takeDueTrigger, h]

/-- With no SLOT trigger due, taking all of them changes nothing. -/
theorem takeDueTriggers_of_none {s : State} (h : s.slotTriggersDue = 0) : takeDueTriggers s = s := by
  have same : s.setSlotTriggersDue 0 = s := by rw [← h]; rfl
  rw [takeDueTriggers, h]; exact same

/-- What a trigger keeps, and what does not look at the count of due triggers, a SLOT trigger keeps. -/
theorem slotTrigger_keeps {P : State → Prop} (one : ∀ it s u, it ∈ s.park → P s → P (readmitOnce it s u).1)
    (mark : ∀ s n, P s → P (s.setSlotTriggersDue n)) (s : State) (h : P s) : P (slotTrigger s) := by
  unfold slotTrigger
  split
  · exact mark _ _ h
  · exact trigger_keeps one _ _ h

/-- ... as does the taking of one that is due. -/
theorem takeDueTrigger_keeps {P : State → Prop} (one : ∀ it s u, it ∈ s.park → P s → P (readmitOnce it s u).1)
    (mark : ∀ s n, P s → P (s.setSlotTriggersDue n)) (s : State) (h : P s) : P (takeDueTrigger s) := by
  unfold takeDueTrigger
  split
  · exact h
  · exact trigger_keeps one _ _ (mark _ _ h)

/-- ... and of all that are due. -/
theorem takeDueTriggers_keeps {P : State → Prop} (one : ∀ it s u, it ∈ s.park → P s → P (readmitOnce it s u).1)
    (mark : ∀ s n, P s → P (s.setSlotTriggersDue n)) (s : State) (h : P s) : P (takeDueTriggers s) := by
  unfold takeDueTriggers
  generalize s.slotTriggersDue = n
  induction n with
  | zero => exact mark _ _ h
  | succ n ih => exact trigger_keeps one _ _ ih

/-- While the M-port is UP an item is judged against the state as it stands. -/
theorem judgedFor_of_up {s : State} (h : s.mUp = true) (it : ParkItem) : judgedFor it s = s := by
  simp [judgedFor, h]

/-- An item that is not SLOT is judged against the state as it stands. -/
theorem judgedFor_of_not_slot {it : ParkItem} (h : it.waitsFor (· == .slot) = false) (s : State) :
    judgedFor it s = s := by
  simp [judgedFor, h]

end Sys2Proof.Machine
end

