-- ==== Sys2Proof/Laws/Frame.lean ====
section
/-! SUPPORT. The frame: what each shared operation leaves unchanged. -/

namespace Sys2Proof.Machine

/-! ## Faults and placed packets -/

/-- A recorded fault changes the log and the alert's marks, and nothing else. -/
theorem recordFault_eq (f : FaultInfo) (s : State) :
    recordFault f s = (s.setLog (s.log.record f s.tick).1).setAlert
      (if (s.log.record f s.tick).2 then s.alert.condition s.cUp else s.alert) := by
  unfold recordFault
  dsimp only
  split <;> rfl

theorem condition_mask (a : AlertCtl) (up : Bool) : (a.condition up).mask = a.mask := by
  unfold AlertCtl.condition; split <;> [rfl; (split <;> rfl)]

theorem condition_dest (a : AlertCtl) (up : Bool) : (a.condition up).dest = a.dest := by
  unfold AlertCtl.condition; split <;> [rfl; (split <;> rfl)]

@[simp] theorem recordFault_standing (f : FaultInfo) (s : State) : (recordFault f s).standing = s.standing := by
  rw [recordFault_eq]; rfl

@[simp] theorem recordFault_park (f : FaultInfo) (s : State) : (recordFault f s).park = s.park := by
  rw [recordFault_eq]; rfl

@[simp] theorem recordFault_windows (f : FaultInfo) (s : State) : (recordFault f s).windows = s.windows := by
  rw [recordFault_eq]; rfl

@[simp] theorem recordFault_slots (f : FaultInfo) (s : State) : (recordFault f s).slots = s.slots := by
  rw [recordFault_eq]; rfl

@[simp] theorem recordFault_freeList (f : FaultInfo) (s : State) : (recordFault f s).freeList = s.freeList := by
  rw [recordFault_eq]; rfl

@[simp] theorem recordFault_meters (f : FaultInfo) (s : State) : (recordFault f s).meters = s.meters := by
  rw [recordFault_eq]; rfl

@[simp] theorem recordFault_cPort (f : FaultInfo) (s : State) : (recordFault f s).cPort = s.cPort := by
  rw [recordFault_eq]; rfl

@[simp] theorem recordFault_mPort (f : FaultInfo) (s : State) : (recordFault f s).mPort = s.mPort := by
  rw [recordFault_eq]; rfl

@[simp] theorem recordFault_longOp (f : FaultInfo) (s : State) : (recordFault f s).longOp = s.longOp := by
  rw [recordFault_eq]; rfl

@[simp] theorem recordFault_replies (f : FaultInfo) (s : State) : (recordFault f s).replies = s.replies := by
  rw [recordFault_eq]; rfl

@[simp] theorem recordFault_abortList (f : FaultInfo) (s : State) : (recordFault f s).abortList = s.abortList := by
  rw [recordFault_eq]; rfl

@[simp] theorem recordFault_holdList (f : FaultInfo) (s : State) : (recordFault f s).holdList = s.holdList := by
  rw [recordFault_eq]; rfl

@[simp] theorem recordFault_nextProducer (f : FaultInfo) (s : State) :
    (recordFault f s).nextProducer = s.nextProducer := by
  rw [recordFault_eq]; rfl

@[simp] theorem recordFault_slotTriggersDue (f : FaultInfo) (s : State) :
    (recordFault f s).slotTriggersDue = s.slotTriggersDue := by
  rw [recordFault_eq]; rfl

@[simp] theorem recordFault_slotTriggerWaits (f : FaultInfo) (s : State) :
    (recordFault f s).slotTriggerWaits = s.slotTriggerWaits := by
  rw [recordFault_eq]; rfl

/-- A placed packet changes the C send queue and nothing else. -/
theorem placeC_eq (pkt : Packet) (s : State) :
    placeC pkt s = s.setCPort (if s.cUp then s.cPort.enqueue pkt else s.cPort) := by
  unfold placeC
  split <;> rfl

@[simp] theorem placeC_standing (pkt : Packet) (s : State) : (placeC pkt s).standing = s.standing := by
  rw [placeC_eq]; rfl

@[simp] theorem placeC_park (pkt : Packet) (s : State) : (placeC pkt s).park = s.park := by
  rw [placeC_eq]; rfl

@[simp] theorem placeC_windows (pkt : Packet) (s : State) : (placeC pkt s).windows = s.windows := by
  rw [placeC_eq]; rfl

@[simp] theorem placeC_slots (pkt : Packet) (s : State) : (placeC pkt s).slots = s.slots := by
  rw [placeC_eq]; rfl

@[simp] theorem placeC_freeList (pkt : Packet) (s : State) : (placeC pkt s).freeList = s.freeList := by
  rw [placeC_eq]; rfl

@[simp] theorem placeC_meters (pkt : Packet) (s : State) : (placeC pkt s).meters = s.meters := by
  rw [placeC_eq]; rfl

@[simp] theorem placeC_mPort (pkt : Packet) (s : State) : (placeC pkt s).mPort = s.mPort := by
  rw [placeC_eq]; rfl

@[simp] theorem placeC_alert (pkt : Packet) (s : State) : (placeC pkt s).alert = s.alert := by
  rw [placeC_eq]; rfl

@[simp] theorem placeC_log (pkt : Packet) (s : State) : (placeC pkt s).log = s.log := by
  rw [placeC_eq]; rfl

@[simp] theorem placeC_longOp (pkt : Packet) (s : State) : (placeC pkt s).longOp = s.longOp := by
  rw [placeC_eq]; rfl

@[simp] theorem placeC_replies (pkt : Packet) (s : State) : (placeC pkt s).replies = s.replies := by
  rw [placeC_eq]; rfl

@[simp] theorem placeC_abortList (pkt : Packet) (s : State) : (placeC pkt s).abortList = s.abortList := by
  rw [placeC_eq]; rfl

@[simp] theorem placeC_holdList (pkt : Packet) (s : State) : (placeC pkt s).holdList = s.holdList := by
  rw [placeC_eq]; rfl

@[simp] theorem placeC_nextProducer (pkt : Packet) (s : State) :
    (placeC pkt s).nextProducer = s.nextProducer := by
  rw [placeC_eq]; rfl

@[simp] theorem placeC_slotTriggersDue (pkt : Packet) (s : State) :
    (placeC pkt s).slotTriggersDue = s.slotTriggersDue := by
  rw [placeC_eq]; rfl

@[simp] theorem placeC_slotTriggerWaits (pkt : Packet) (s : State) :
    (placeC pkt s).slotTriggerWaits = s.slotTriggerWaits := by
  rw [placeC_eq]; rfl

/-- A placed packet leaves the C-port's training state. -/
@[simp] theorem placeC_cUp (pkt : Packet) (s : State) : (placeC pkt s).cUp = s.cUp := by
  rw [placeC_eq]
  unfold State.cUp PortState.isUp
  split <;> rfl

/-! ## The standing items -/

/-- The mask and the destination of the alert, which a SET_SETTING alone changes. -/
def State.alertSettings (s : State) : Bool × SourceId := (s.alert.mask, s.alert.dest)

/-- The standing items of a state, and the alert's settings. -/
def State.kept (s : State) : Standing × Bool × SourceId := (s.standing, s.alertSettings)

@[simp] theorem recordFault_kept (f : FaultInfo) (s : State) : (recordFault f s).kept = s.kept := by
  unfold State.kept
  rw [recordFault_standing, recordFault_eq]
  unfold State.alertSettings
  simp only [State.setAlert_alert]
  split
  · rw [condition_mask, condition_dest]
  · rfl

@[simp] theorem placeC_kept (pkt : Packet) (s : State) : (placeC pkt s).kept = s.kept := by
  rw [placeC_eq]; rfl

@[simp] theorem recordOpt_kept (f : Option FaultInfo) (s : State) : (recordOpt f s).kept = s.kept := by
  cases f <;> simp [recordOpt]

@[simp] theorem answerError_kept (st : AnswerStatus) (r : Request) (s : State) :
    (answerError st r s).kept = s.kept := by
  unfold answerError; split <;> simp

@[simp] theorem chargeMeter_kept (e : WindowEntry) (n : Nat) (s : State) : (chargeMeter e n s).kept = s.kept := by
  unfold chargeMeter
  split
  · rfl
  · dsimp only; split <;> rfl

@[simp] theorem takeSlot_kept (k : Option SlotKind) (w : Option (Fin 64)) (r : Request) (s : State) :
    (takeSlot k w r s).2.kept = s.kept := by
  unfold takeSlot
  split
  · dsimp only; split <;> rfl
  · rfl

@[simp] theorem countAdmission_kept (w : Option (Fin 64)) (s : State) : (countAdmission w s).kept = s.kept := by
  unfold countAdmission; split <;> rfl

@[simp] theorem forwardRequest_kept (w : Option (Fin 64)) (r : Request) (s : State) :
    (forwardRequest w r s).kept = s.kept := by
  have h : ∀ (x : PortState) (u : State), (u.setMPort x).kept = u.kept := fun _ _ => rfl
  unfold forwardRequest
  dsimp only
  rw [h, countAdmission_kept, takeSlot_kept]
  cases w <;> simp

@[simp] theorem removeItem_kept (n : Nat) (s : State) : (removeItem n s).kept = s.kept := rfl

@[simp] theorem setItemState_kept (n : Nat) (x : ItemState) (s : State) : (setItemState n x s).kept = s.kept := rfl

@[simp] theorem parkFresh_kept (reason : ParkReason) (f : Option FaultInfo) (r : Request) (s : State) :
    (parkFresh reason f r s).kept = s.kept := by
  unfold parkFresh
  split
  · rw [recordOpt_kept]; rfl
  · simp

@[simp] theorem runFresh_kept (r : Request) (s : State) : (runFresh r s).kept = s.kept := by
  unfold runFresh; split <;> simp

@[simp] theorem readmitOnce_kept (it : ParkItem) (s : State) (used : Nat) :
    (readmitOnce it s used).1.kept = s.kept := by
  unfold readmitOnce
  split
  · simp
  · simp
  · split <;> simp

@[simp] theorem trigger_kept (hits : ParkReason → Bool) (s : State) : (trigger hits s).kept = s.kept :=
  trigger_frame (f := State.kept) (fun it s u _ => readmitOnce_kept it s u) hits s

@[simp] theorem behindTrigger_kept (src : SourceId) (s : State) (used : Nat) :
    (behindTrigger src s used).kept = s.kept :=
  behindTrigger_frame (f := State.kept) (fun it s u _ => readmitOnce_kept it s u) src used s

/-- A fold keeps the standing items when each of its turns does. -/
theorem foldl_kept {α : Type} {f : State → α → State} (turn : ∀ s x, (f s x).kept = s.kept) (l : List α)
    (s : State) : (l.foldl f s).kept = s.kept :=
  foldl_keeps (P := fun t => t.kept = s.kept) (fun t x h => (turn t x).trans h) l s rfl

@[simp] theorem listReply_kept (pkt : Packet) (a h : Nat) (s : State) : (listReply pkt a h s).kept = s.kept := by
  unfold listReply; split <;> rfl

@[simp] theorem completeRetire_kept (s : State) : (completeRetire s).kept = s.kept := by
  unfold completeRetire
  split
  · split
    · rfl
    · rw [listReply_kept]; rfl
  · rfl
  · rfl

@[simp] theorem completeSetMode_kept (s : State) : (completeSetMode s).kept = s.kept := by
  unfold completeSetMode
  split
  · split
    · rfl
    · rw [listReply_kept]; rfl
  · rfl
  · rfl

@[simp] theorem freeSlot_kept (i : Fin 32) (s : State) : (freeSlot i s).kept = s.kept := by
  unfold freeSlot
  dsimp only
  rw [completeSetMode_kept, completeRetire_kept]
  split <;> rfl

@[simp] theorem slotTrigger_kept (s : State) : (slotTrigger s).kept = s.kept :=
  slotTrigger_keeps (P := fun t => t.kept = s.kept) (fun it t u _ h => (readmitOnce_kept it t u).trans h)
    (fun _ _ h => h) s rfl

@[simp] theorem takeDueTriggers_kept (s : State) : (takeDueTriggers s).kept = s.kept :=
  takeDueTriggers_keeps (P := fun t => t.kept = s.kept) (fun it t u _ h => (readmitOnce_kept it t u).trans h)
    (fun _ _ h => h) s rfl

@[simp] theorem takeDueTrigger_kept (s : State) : (takeDueTrigger s).kept = s.kept :=
  takeDueTrigger_keeps (P := fun t => t.kept = s.kept) (fun it t u _ h => (readmitOnce_kept it t u).trans h)
    (fun _ _ h => h) s rfl

@[simp] theorem slotFreed_kept (i : Fin 32) (s : State) : (slotFreed i s).kept = s.kept := by
  simp [slotFreed]

@[simp] theorem answerSlot_kept (x : Slot) (st : AnswerStatus) (data : List Byte) (s : State) :
    (answerSlot x st data s).kept = s.kept := by
  unfold answerSlot; split <;> simp

@[simp] theorem answerOrHold_kept (x : Slot) (st : AnswerStatus) (s : State) :
    (answerOrHold x st s).kept = s.kept := by
  unfold answerOrHold
  split
  · simp
  · split <;> rfl

@[simp] theorem expireSlot_kept (i : Fin 32) (s : State) : (expireSlot i s).kept = s.kept := by
  simp [expireSlot]

@[simp] theorem slotBecomesOverdue_kept (i : Fin 32) (s : State) : (slotBecomesOverdue i s).kept = s.kept := by
  unfold slotBecomesOverdue
  dsimp only
  split
  · split
    · rw [expireSlot_kept]; rfl
    · rfl
  · rfl

@[simp] theorem routeAnswer_kept (pkt : Packet) (s : State) : (routeAnswer pkt s).kept = s.kept := by
  have h : ∀ x : Slot, (routeMatched x pkt s).kept = s.kept := by
    intro x
    unfold routeMatched
    repeat' split
    all_goals simp
  unfold routeAnswer
  dsimp only
  split
  · simp [h]
  · simp

@[simp] theorem loseSlot_kept (s : State) (i : Fin 32) : (loseSlot s i).kept = s.kept := by
  unfold loseSlot
  dsimp only
  split <;> simp

@[simp] theorem resetSlot_kept (s : State) (i : Fin 32) : (resetSlot s i).kept = s.kept := by
  unfold resetSlot
  dsimp only
  split
  · exact (answerOrHold_kept _ _ s)
  · rfl

@[simp] theorem abortItem_kept (b : Bool) (s : State) (it : ParkItem) : (abortItem b s it).kept = s.kept := by
  unfold abortItem
  split
  · split
    · simp
    · rfl
  · split
    · simp
    · rfl
  · rfl

@[simp] theorem abortPark_kept (b : Bool) (s : State) : (abortPark b s).kept = s.kept :=
  foldl_kept (abortItem_kept b) _ _

@[simp] theorem recordLeavingFault_kept (s : State) (it : ParkItem) : (recordLeavingFault s it).kept = s.kept := by
  unfold recordLeavingFault; split <;> simp

@[simp] theorem grantTo_kept (q : Producer) (s : State) : (grantTo q s).kept = s.kept := rfl

@[simp] theorem takeFromC_kept (s : State) : (takeFromC s).kept = s.kept := rfl

@[simp] theorem takeFromM_kept (s : State) : (takeFromM s).kept = s.kept := rfl

@[simp] theorem reply_kept (p : Packet) (st : MgmtStatus) (l : List Byte) (s : State) :
    (reply p st l s).kept = s.kept := by
  simp [reply]

end Sys2Proof.Machine
end

