-- ==== Sys2Proof/Laws/Commands.lean ====
section
/-! SUPPORT. Where a command takes place: what its meaning comes to when its conditions hold. -/

namespace Sys2Proof.Machine

theorem whenRunning_high {s : State} (h : s.inReset = false) (f : State → State) :
    whenRunning s f = .next (f s) := by
  simp [whenRunning, h]

theorem whenRunning_low {s : State} (h : s.inReset = true) (f : State → State) : whenRunning s f = .next s := by
  simp [whenRunning, h]

/-- The claim of a granted producer is set. -/
theorem granted_claim {s : State} {q : Producer} (h : s.granted = some q) : s.cFree = true ∧ s.claim q = true := by
  unfold State.granted at h
  split at h
  · rename_i hf
    exact ⟨hf, List.find?_some h⟩
  · cases h

theorem takes_granted {s : State} {p : Packet} (h : s.Takes p) :
    s.granted = some .admission ∧ s.cPort.rx.head? = some p := by
  have := h.2
  unfold State.packetToTake at this
  split at this
  · rename_i hg; exact ⟨hg, this⟩
  · cases this

/-- A data request that is taken runs the admission path on the state after the taking. -/
theorem takeRequest_of_takes {s : State} {p : Packet} {pk : PacketKind} {k : ReqKind} (h : s.Takes p)
    (hk : p.kind = pk) : whenRunning s (takeRequest pk k) = .next (runFresh (requestOf k p) (takeFromC s)) := by
  rw [whenRunning_high h.1]
  simp [takeRequest, h.2, hk]

@[simp] theorem permitted_takeFromC (s : State) (src : SourceId) :
    permitted (takeFromC s) src = permitted s src := rfl

/-- A permitted MREQ that is taken is executed by its row's body on the state after the taking. -/
theorem takeMreq_of_asks {s : State} {p : Packet} {payload : List Byte} {row : MgmtRow}
    (h : s.Asks p payload) (hrow : mreqRow payload = row) (body : Packet → State → State) :
    whenRunning s (takeMreq row body) = .next (body p (takeFromC s)) := by
  rw [whenRunning_high h.takes.1]
  have hp := h.permitted
  simp [takeMreq, h.takes.2, h.kind, h.payload, hrow, hp]

/-- An MREQ of a source that may not manage the bridge is denied whatever its body. -/
theorem takeMreq_of_unpermitted {s : State} {p : Packet} (h : s.Takes p) (hk : p.kind = .mreq)
    (hp : permitted s p.source = false) (body : Packet → State → State) :
    whenRunning s (takeMreq (mreqRow p.payload) body) =
      .next (recordFault (mgmtDeniedFault p.source) (s.replied p .denied [])) := by
  rw [whenRunning_high h.1]
  simp [takeMreq, h.2, hk, hp, State.replied]

/-- An empty rest of a management command's checks: the operand length is right. -/
theorem withLength_right {n : Nat} {p : Packet} (h : p.payload.length = n) (s : State) (f : State → State) :
    withLength n p s f = f s := by
  simp [withLength, h]

theorem withLength_wrong {n : Nat} {p : Packet} (h : p.payload.length ≠ n) (s : State) (f : State → State) :
    withLength n p s f = reply p .badRequest [] s := by
  simp [withLength, h]

end Sys2Proof.Machine
end

