-- ==== Sys2Proof/Laws/Windows.lean ====
section
/-! SUPPORT. The window table: matching, overlap, lookup. -/

namespace Sys2Proof.Machine

/-- The model's test is the rule's match (R4). -/
theorem admits_iff (e : WindowEntry) (d : Fin 16) (a : Addr) : e.admits d a = true ↔ e.Matches d a := by
  simp [WindowEntry.admits, WindowEntry.serves, WindowEntry.Matches, and_assoc]
  intro _ _ _
  rfl

/-- Two entries that match the same pair of domain and card address overlap and share a domain (R13). -/
theorem conflicts_of_admits {e f : WindowEntry} {d : Fin 16} {a : Addr} (he : e.Matches d a)
    (hf : f.Matches d a) : e.overlaps f = true ∧ e.sharesDomain f = true := by
  obtain ⟨-, hed, he1, he2⟩ := he
  obtain ⟨-, hfd, hf1, hf2⟩ := hf
  constructor
  · simp only [WindowEntry.overlaps, Bool.and_eq_true, decide_eq_true_eq]
    unfold WindowEntry.limit
    omega
  · simp only [WindowEntry.sharesDomain, Bool.or_eq_true, decide_eq_true_eq]
    rcases hed with h | h <;> rcases hfd with h' | h' <;> simp [h, h']

/-- Entries that overlap only where they share no domain match no pair twice (R5). -/
theorem disjointLaw_of_pairs {s : State}
    (h : ∀ i j : Fin 64, i ≠ j → (s.windows[i]).state = .active → (s.windows[j]).state = .active →
      ((s.windows[i]).overlaps s.windows[j] && (s.windows[i]).sharesDomain s.windows[j]) = false) :
    s.DisjointLaw := by
  intro i j d a hi hj
  by_contra hij
  have hi' := (admits_iff _ _ _).mp hi
  have hj' := (admits_iff _ _ _).mp hj
  have := conflicts_of_admits hi' hj'
  have hf := h i j hij hi'.1 hj'.1
  rw [this.1, this.2] at hf
  cases hf

/-- Lookup finds the one entry that matches (R5, R6). -/
theorem lookup_of_matches {s : State} (h : s.DisjointLaw) {d : Fin 16} {a : Addr} {i : Fin 64}
    (hi : (s.windows[i]).Matches d a) : lookup s d a = some i :=
  findIndex_unique (p := fun e : WindowEntry => e.admits d a) ((admits_iff _ _ _).mpr hi)
    (fun j hj => h j i d a hj ((admits_iff _ _ _).mpr hi))

/-- Lookup finds nothing where nothing matches (R6). -/
theorem lookup_of_no_match {s : State} {d : Fin 16} {a : Addr}
    (h : ∀ i : Fin 64, ¬(s.windows[i]).Matches d a) : lookup s d a = none := by
  cases hl : lookup s d a with
  | none => rfl
  | some i =>
    have hp := findIndex_some (p := fun e : WindowEntry => e.admits d a) hl
    exact absurd ((admits_iff _ _ _).mp hp) (h i)

end Sys2Proof.Machine
end

