-- ==== Sys2Proof/Tests/Slice0.lean ====
section
/-! SUPPORT. Tests: ill-formed commands, one step per command on small states (the manual's worked examples where
they give one), and states that meet the hypotheses of the obligations. -/

namespace Sys2Proof.Tests

open Sys2Proof.Machine

/-! ## Well-formedness -/

theorem test_unknown_kind_code_of_a_known_kind_is_ill_formed : (PacketKind.unknown 7).wellFormed = false := by decide

theorem test_unknown_kind_code_8_is_well_formed : (PacketKind.unknown 8).wellFormed = true := by decide

/-- A packet of no particular content. -/
def plain : Packet :=
  { kind := .read, source := 0, dest := 0, tag := 0, status := 0, length := 1, address := 0, payload := [] }

theorem test_length_above_two_bytes_is_ill_formed :
    (Instr.packetReceived .c true { plain with length := 65536 }).wellFormed = false := by decide

theorem test_kind_is_checked_in_a_packet :
    (Instr.packetReceived .c true { plain with kind := .unknown 1 }).wellFormed = false := by decide

theorem test_payload_above_two_bytes_is_ill_formed :
    { plain with payload := List.replicate 65536 0 }.wellFormed = false := by
  unfold Packet.wellFormed
  rw [List.length_replicate]
  rfl

theorem test_no_word_spells_a_command : decodeTableWord 16 0 = none := by decide

/-! ## States -/

/-- The straps of chapter 10: the station is source 63, the bridge 1, SMODE SHUT. -/
def straps : Straps := { msrc := 63, smode := .startShut, bid := 1 }

/-- The state after a power-on reset with those straps. -/
def base : State := State.powerOn straps

/-- A port that is UP at a negotiated payload. -/
def upPort (partner : Role) (payload : Nat) : PortState :=
  { PortState.powerOn with
    training := .up, agreed := some { role := partner, payloadCode := payload, buffers := 16 }
    negotiated := some payload, credits := 16 }

/-- Both ports UP. -/
def linked : State := { base with cPort := upPort .upper 256, mPort := upPort .lower 128 }

/-- The entries 3, 7 and 9 of the worked example "match and translation", 3 bound to meter 1, and a CONFIRMED
entry 4. -/
def window3 : WindowEntry :=
  { WindowEntry.powerOn with
    state := .active, domain := .numbered 1, cardBase := 0x100000, sizeExp := 20, memBase := 0x240300000,
    rights := { read := true, write := true, userOpen := false }, meter := some 1 }

def window4 : WindowEntry :=
  { window3 with cardBase := 0x400000, memBase := 0x100000000, delivery := .confirmed, meter := none }

def window7 : WindowEntry :=
  { WindowEntry.powerOn with
    state := .active, domain := .shared, sizeExp := 16, memBase := 0x3F0000000,
    rights := { read := true, write := false, userOpen := true } }

def window9 : WindowEntry :=
  { WindowEntry.powerOn with
    state := .active, domain := .numbered 2, cardBase := 0x100000, sizeExp := 20, memBase := 0x240500000,
    rights := { read := true, write := false, userOpen := false } }

/-- Sources 10 (domain 1, PARK), 11 (domain 2, REFUSE) and 12 (domain 5, USER, PARK) are known. -/
def records : Vector DomainRecord 64 :=
  setAt (setAt (setAt base.domains
    10 { valid := true, domain := 1, sourceClass := .privileged, missPolicy := .park, mayManage := false })
    11 { valid := true, domain := 2, sourceClass := .privileged, missPolicy := .refuse, mayManage := false })
    12 { valid := true, domain := 5, sourceClass := .user, missPolicy := .park, mayManage := false }

def windows : Vector WindowEntry 64 :=
  setAt (setAt (setAt (setAt base.windows 3 window3) 4 window4) 7 window7) 9 window9

/-- A RUNNING meter that allows 4 requests in a period of 1000 ticks and has charged 3. -/
def meter1 : Meter := { Meter.powerOn with state := .running, budget := 4, used := 3, periodCount := 5 }

/-- GUARD mode with both ports UP at tick 1200. -/
def guarded : State :=
  { linked with
    mode := .guardMode, tick := 1200, domains := records, windows := windows
    meters := setAt base.meters 1 meter1 }

/-- The state with packets in the C receive buffer. -/
def receiving (ps : List Packet) (s : State) : State := { s with cPort := { s.cPort with rx := ps } }

/-- A data request of 64 bytes. -/
def request (kind : PacketKind) (source : SourceId) (address : Addr) : Packet :=
  { kind := kind, source := source, dest := 0, tag := 5, status := 0, length := 64, address := address,
    payload := if kind = .read then [] else List.replicate 64 0xAA }

/-- An MREQ of the station under tag 9. -/
def mreq (payload : List Byte) : Packet :=
  { kind := .mreq, source := 63, dest := 1, tag := 9, status := 0, length := 0, address := 0, payload := payload }

/-- The bridge in GUARD about to take an MREQ. -/
def asking (payload : List Byte) : State := receiving [mreq payload] guarded

/-- A WAITING slot for a READ of source 10 through window 3. -/
def slotRead : Slot :=
  { Slot.powerOn with
    state := .waiting, origin := 10, upTag := some 5, kind := .read, window := some 3, length := 2, deadline := 1200,
    generation := 2 }

/-- A WAITING CONFIRM slot through window 4. -/
def slotConfirm : Slot := { slotRead with upTag := none, kind := .confirm, window := some 4 }

/-- GUARD mode with slot 5 WAITING as given and counted in its window. -/
def waiting (x : Slot) : State :=
  { guarded with
    slots := setAt base.slots 5 x
    freeList := base.freeList.erase 5
    windows := match x.window with
      | some w => setAt windows w { windows[w] with inFlight := 1 }
      | none => windows }

/-- An ANSWER from memory. -/
def memAnswer (tag : Tag) (status : Byte) (data : List Byte) : Packet :=
  { kind := .answer, source := 0, dest := 0, tag := tag, status := status, length := 2, address := 0, payload := data }

/-- The router about to take a packet from memory. -/
def answering (pkt : Packet) (s : State) : State :=
  { s with mPort := { s.mPort with rx := [pkt] }, nextProducer := .router }

/-- A parked READ of source 10. -/
def item (serial : Nat) (st : ItemState) : ParkItem :=
  { serial := serial, state := st, arrival := 700, expiryDue := false
    req := { source := 10, kind := .read, tag := some 8, address := 0x100000, length := 64, data := [] } }

/-- The fault that item's source would have had. -/
def missFault : FaultInfo :=
  { kind := .miss, source := some 10, locus := .page 256, reqKind := some .read, address := some 0x100000 }

/-- GUARD mode with park items, the park queue first in the rotation. -/
def parking (items : List ParkItem) : State := { guarded with park := items, nextProducer := .parkQueue }

/-- A full C send queue. -/
def full (s : State) : State := { s with cPort := { s.cPort with tx := List.replicate 16 plain } }

/-- The next state of a command. -/
def after (c : Instr) (s : State) : State :=
  match exec c s with
  | .next t => t
  | .fault _ | .refused _ => s

/-- The statuses of the packets of the C send queue, ANSWER status for an ANSWER and management status else. -/
def statuses (s : State) : List Byte :=
  s.cPort.tx.map fun p => if p.kind = .answer then p.status else p.payload.getD 1 0xFF

/-! ## Commands, one step each -/

theorem test_powerOnReset_shut : (after (.powerOnReset straps) guarded).mode = .shutMode := by decide

theorem test_rstN_low_stops_time : (after .tick (after .rstNAsserted guarded)).tick = 0 := by decide

theorem test_tick_counts : (after .tick guarded).tick = 1201 ∧ ((after .tick guarded).meters[1]).periodCount = 6 := by
  decide +kernel

theorem test_rollover_clears_used :
    ((after (.meterRollover 1) (guarded.setMeter 1
      { meter1 with periodCount := 999, rolloverDue := true })).meters[1]).used = 0 := by decide

theorem test_expiryDue_marks_at_500 :
    (after .expiryDue (parking [item 0 (.parked .miss)])).park.map ParkItem.expiryDue = [true] := by decide

theorem test_slotOverdue_frees_a_confirm_slot :
    ((after (.slotOverdue 5) (waiting slotConfirm)).slots[5]).generation = 3 := by decide

theorem test_alignment_trains : (after (.wordAlignmentAcquired .c) base).cPort.training = .train := by decide

theorem test_alignment_loss_counts_from_0 : (after (.alignmentLost .m) linked).mPort.lossTicks = some 0 := by decide

theorem test_alignment_regained :
    (after (.alignmentRegained .m) { linked with mPort := { linked.mPort with lossTicks := some 1999 } }).mPort.lossTicks
      = none := by decide

theorem test_alignment_loss_expires :
    (after (.alignmentLossExpiry .m) { linked with mPort := { linked.mPort with lossTicks := some 2000 } }).mPort.training
      = .down := by decide +kernel

/-- The crossbar's TRAIN word with payload code 128. -/
def upperWord : TrainWord := { offer := { role := .upper, payloadCode := 128, buffers := 8 }, agree := true }

/-- The C-port in AGREE with two words of three counted. -/
def agreeing : State :=
  { base with
    cPort := { PortState.powerOn with training := .agree, agreed := some upperWord.offer, trainCount := 2 } }

theorem test_third_agreed_word_brings_up :
    (after (.trainWord .c upperWord) agreeing).cPort.negotiated = some 128
      ∧ (after (.trainWord .c upperWord) agreeing).cPort.credits = 8 := by decide

theorem test_other_train_word_ends_the_link :
    (after (.trainWord .m { upperWord with agree := false }) (waiting slotRead)).freeList.length = 32 := by decide +kernel

theorem test_credit_is_clamped :
    (after (.creditWord .c 3) linked).cPort.credits = 16
      ∧ (after (.creditWord .c 3) linked).cPort.indications.creditError = true := by decide

theorem test_sendCredit_returns_all :
    (after (.sendCredit .c) { linked with cPort := { linked.cPort with owed := 4 } }).cPort.sent = [.credit 4] := by
  decide

theorem test_sendPacket_takes_the_head :
    (after (.sendPacket .c) (full linked)).cPort.tx.length = 15
      ∧ (after (.sendPacket .c) (full linked)).cPort.credits = 15 := by decide

theorem test_wrong_check_sequence_is_a_check_error :
    (after (.packetReceived .c false plain) linked).cPort.indications.checkError = true := by decide

theorem test_read_arrives : (after (.packetReceived .c true plain) linked).cPort.rx = [plain] := by decide

theorem test_idle_restarts_the_count : (after (.idleWord .c) agreeing).cPort.trainCount = 0 := by decide

/-- Worked example "match and translation", request A. -/
theorem test_read_is_translated :
    (after .read (receiving [request .read 10 0x1234A0] guarded)).mPort.tx.map Packet.address = [0x2403234A0] := by
  decide

theorem test_user_read_of_the_shared_window_is_translated :
    (after .read (receiving [request .read 12 0x8010] guarded)).mPort.tx.map Packet.address = [0x3F0008010] := by
  decide

/-- Worked example "match and translation", request G: entry 9 lacks the write right. -/
theorem test_write_without_right_is_denied :
    statuses (after .write (receiving [request .write 11 0x180000] guarded)) = [2] := by decide

theorem test_write_that_misses_parks :
    (after .write (receiving [request .write 10 0x900000] guarded)).park.map ParkItem.state = [.parked .miss] := by
  decide

theorem test_confirmed_post_goes_as_write :
    (after .post (receiving [request .post 10 0x400000] guarded)).mPort.tx.map Packet.kind = [.write] := by decide

theorem test_post_is_dropped_in_shut :
    statuses (after .post (receiving [request .post 10 0x400000] linked)) = []
      ∧ ((after .post (receiving [request .post 10 0x400000] linked)).log.records[0]).info.kind = .shutRefused := by
  decide

theorem test_answer_goes_back_under_the_cards_tag :
    (after .answer (answering (memAnswer 69 0 [1, 2]) (waiting slotRead))).cPort.tx.map
      (fun p => (p.tag, p.status, p.payload)) = [(5, 0, [1, 2])] := by decide

theorem test_late_answer_changes_no_slot :
    (after .answer (answering (memAnswer 37 0 []) (waiting slotRead))).slots = (waiting slotRead).slots := by decide

/-- A drained RETIRE and a drained SET_MODE that still stand. -/
def draining (op : LongOp) : State := { guarded with longOp := op }

theorem test_retireComplete_lists_ok :
    (after .retireComplete (draining (.retire 63 9 2 true))).replies.map (fun r => r.packet.payload)
      = [[9, 0, 2, 1]] := by decide

theorem test_setModeComplete_lists_ok :
    (after .setModeComplete (draining (.setMode 63 9 .shutMode 3))).replies.map (fun r => r.packet.payload)
      = [[10, 0, 2, 3]] := by decide

/-- The router about to take the expiry of slot 5. -/
def expiring : State := { waiting { slotRead with overdue := true } with nextProducer := .router }

theorem test_expiry_answers_timeout : statuses (after .deadlineExpiry expiring) = [6] := by decide

/-- The router about to place the last held answer. -/
def holding : State :=
  { guarded with holdList := [{ dest := 10, tag := 5, length := 64, status := .targetLost }], nextProducer := .router }

/-- Slot 5 overdue for 3 ticks beside slot 2, overdue for one more than the timebase can count (R97). -/
def twoOverdue : State :=
  { expiring with
    slots := setAt (setAt expiring.slots 5 { slotRead with overdue := true, overdueFor := 3 })
      2 { slotRead with overdue := true, overdueFor := 2 ^ 32 + 1, upTag := some 7 } }

theorem test_the_slot_overdue_longest_expires_first :
    (after .deadlineExpiry twoOverdue).cPort.tx.map Packet.tag = [7] := by decide +kernel

theorem test_tick_counts_an_overdue_slot : ((after .tick expiring).slots[5]).overdueFor = 1 := by decide +kernel

theorem test_hold_list_is_placed : statuses (after .holdListPlace holding) = [8] := by decide

/-- The park queue about to take the expiry of a marked item, with a BEHIND item after it. -/
def lapsing : State :=
  parking [{ item 0 (.parked (.meter 1)) with expiryDue := true }, item 1 (.parked .behind)]

theorem test_expired_item_leaves_and_its_next_is_forwarded :
    statuses (after .parkExpiry lapsing) = [5] ∧ (after .parkExpiry lapsing).park = []
      ∧ (after .parkExpiry lapsing).mPort.tx.map Packet.address = [0x240300000] := by decide

/-- The park queue about to take the expiry of a POST, with a BEHIND READ after it that crosses its window's end, and
`fill` packets in the C send queue. -/
def lapsingPost (fill : Nat) : State :=
  let s := parking
    [{ item 0 (.parked (.meter 1)) with
        expiryDue := true, req := { (item 0 (.parked .slot)).req with kind := .post, tag := none } },
     { item 1 (.parked .behind) with req := { (item 1 (.parked .behind)).req with address := 0x4FFFFF } }]
  { s with cPort := { s.cPort with tx := List.replicate fill plain } }

/-- R83: the POST's claim uses the last place, so the READ behind it becomes LEAVING; with one more, it is answered. -/
theorem test_expired_post_uses_its_place :
    let one := after .parkExpiry (lapsingPost 15)
    let two := after .parkExpiry (lapsingPost 14)
    one.cPort.tx.length = 15 ∧ one.park.map ParkItem.isLeaving = [true]
      ∧ two.cPort.tx.length = 15 ∧ two.park = [] := by decide +kernel

/-- The park queue about to take the claim of a LEAVING item. -/
def leaving : State := parking [item 0 (.leaving .noWindow missFault)]

/-- One free slot comes back while an item waits for it and a READ of another source is in the receive buffer; a SLOT
trigger waits for a step of its own. -/
def contended (waits : Bool) : State :=
  let s := answering (memAnswer 69 0 [1, 2]) (waiting slotRead)
  { receiving [request .read 12 0x8010] s with
    freeList := [], slotTriggerWaits := waits
    park := [{ item 0 (.parked .slot) with req := { (item 0 (.parked .slot)).req with address := 0x400000 } }] }

/-- R45, R79: the trigger first, and the item has the slot. -/
theorem test_trigger_before_a_taking_gives_the_item_the_slot :
    (after .read (after .answer (contended false))).mPort.tx.map Packet.address = [0x100000000]
      ∧ (after .read (after .answer (contended false))).park.map ParkItem.state = [.parked .slot] := by decide +kernel

/-- R45, R79: the taking first, and the new request has it; the trigger then finds none. -/
theorem test_taking_before_a_trigger_gives_the_request_the_slot :
    let s := after .read { after .answer (contended true) with nextProducer := .admission }
    s.slotTriggersDue = 1 ∧ s.mPort.tx.map Packet.address = [0x3F0008010]
      ∧ (takeDueTrigger s).mPort.tx.length = 1 ∧ (takeDueTrigger s).park.map ParkItem.serial = [0]
      ∧ (takeDueTrigger s).slotTriggersDue = 0 := by decide +kernel

/-- R105, R79: two freeings while triggers wait give two, and each step with no command waiting takes one. -/
theorem test_two_freeings_give_two_triggers :
    let once := after .answer (contended true)
    let s := after (.slotOverdue 3) (once.setSlot 3
      { once.slots[3] with state := .waiting, kind := .confirm, upTag := none, deadline := once.tick })
    (s.slotTriggersDue, (takeDueTrigger s).slotTriggersDue, (takeDueTrigger (takeDueTrigger s)).slotTriggersDue,
      (takeDueTriggers s).slotTriggersDue) = (2, 1, 0, 0) := by decide +kernel

/-- R78, R108: OPEN mode, the M-port lost with its answers on the hold list; the SLOT item is answered TARGET_LOST too,
and becomes LEAVING for want of a place. -/
theorem test_slot_item_is_answered_at_the_loss_of_the_mport :
    let s := full { waiting { slotRead with window := none } with mode := .openMode, park := [item 0 (.parked .slot)] }
    (portLeavesUp .m .train s).holdList.map HoldEntry.status = [.targetLost]
      ∧ (portLeavesUp .m .train s).park.map ParkItem.isLeaving = [true] := by decide +kernel

theorem test_leaving_item_is_answered : statuses (after .leavingAnswer leaving) = [1] := by decide

/-- The park queue about to place an ABORTED answer that a reply waits for. -/
def aborting : State :=
  { guarded with
    abortList := [{ dest := 10, tag := 5, length := 64, fromModeChange := true }]
    replies := [{ packet := plain, abortAhead := 1, holdAhead := 0 }]
    nextProducer := .parkQueue }

theorem test_abort_list_is_placed_and_frees_the_reply :
    statuses (after .abortListPlace aborting) = [9]
      ∧ (after .abortListPlace aborting).replies.map Reply.abortAhead = [0] := by decide

/-- The management unit about to place a reply. -/
def replying : State :=
  { guarded with replies := [{ packet := mreq [9, 0], abortAhead := 0, holdAhead := 0 }], nextProducer := .management }

theorem test_reply_is_placed : (after .mreplyPlace replying).replies = [] ∧ statuses (after .mreplyPlace replying) = [0] := by
  decide

/-- The alert controller about to place an ALERT. -/
def alerting : State :=
  { guarded with alert := { mask := false, dest := 63, pending := false, due := true }, nextProducer := .alertCtl }

theorem test_alert_carries_the_snapshot :
    (after .alert alerting).cPort.tx.map Packet.payload = [[0, 0xFF, 0, 0xB0, 0x04, 0, 0]] := by decide

theorem test_identify :
    (after .identify (asking [1])).cPort.tx.map Packet.payload
      = [[1, 0, 0x17, 0x2D, 0x40, 0x64, 1, 64, 32, 16, 16, 4, 0, 1, 63, 2, 1]] := by decide

theorem test_getSetting_mode : (after .getSetting (asking [2, 9])).cPort.tx.map Packet.payload = [[2, 0, 9, 1]] := by
  decide

theorem test_setSetting_park_limit : (after .setSetting (asking [3, 0, 0x2C, 0x01])).parkLimit = 300 := by decide

theorem test_setMeterSetting_rolls_at_once :
    ((after .setMeterSetting (asking [3, 5, 0, 5, 0, 9, 0, 1, 0])).meters[1]).periodCount = 0
      ∧ ((after .setMeterSetting (asking [3, 5, 0, 5, 0, 9, 0, 1, 0])).meters[1]).budget = 9 := by decide

theorem test_getDomain :
    (after .getDomain (asking [4, 10])).cPort.tx.map Packet.payload = [[4, 0, 10, 1, 1, 0, 0, 0]] := by decide

theorem test_setDomain_returns_the_old_record :
    (after .setDomain (asking [5, 20, 1, 1, 0, 0, 0])).cPort.tx.map Packet.payload
      = [[5, 0, 20, 0, 0, 1, 1, 0]] := by decide

/-- Worked example "match and translation": the SHARED load of index 20 conflicts with entry 3 first. -/
theorem test_loadWindow_overlap :
    (after .loadWindow (asking [6, 20, 16, 0, 0, 0, 0, 0, 24, 0, 0, 0, 0, 0, 1, 0, 255])).cPort.tx.map Packet.payload
      = [[6, 6, 20, 3]] := by decide

theorem test_loadWindow_ok :
    ((after .loadWindow (asking [6, 20, 1, 0, 0, 0x80, 0, 0, 20, 0, 0, 0, 0, 0, 1, 0, 255])).windows[20]).state
      = .active := by decide

theorem test_widenWindow :
    ((after .widenWindow (asking [7, 9, 3])).windows[9]).rights = { read := true, write := true, userOpen := false } := by
  decide

theorem test_readWindow_never_loaded :
    (after .readWindow (asking [8, 30])).cPort.tx.map Packet.payload
      = [[8, 0, 30, 0, 0, 0, 0, 0, 0, 0, 0, 0, 0, 0, 0, 0, 0, 0, 255, 0, 0, 0, 0, 0]] := by decide

/-- A RETIRE's payload. -/
def retire (scope index domain : Byte) (base length : Nat) : List Byte :=
  [9, scope, index, domain] ++ leBytes 5 base ++ leBytes 6 length

theorem test_retireEntry_frees : ((after .retireEntry (asking (retire 0 3 0 0 0))).windows[3]).state = .free := by decide

theorem test_retireRange_is_widened :
    (after .retireRange (asking (retire 1 0 1 0x1FFFFF 1))).cPort.tx.map Packet.payload = [[9, 0, 1, 1]] := by decide

theorem test_retireDomain_leaves_shared :
    (after .retireDomain (asking (retire 2 0 1 0 0))).cPort.tx.map Packet.payload = [[9, 0, 2, 0]] := by decide

theorem test_retireAll_takes_all :
    (after .retireAll (asking (retire 3 0 0 0 0))).cPort.tx.map Packet.payload = [[9, 0, 4, 0]] := by decide

theorem test_setMode_open : (after .setMode (asking [10, 0])).mode = .openMode
    ∧ statuses (after .setMode (asking [10, 0])) = [0] := by decide

theorem test_meterRun : ((after .meterRun (asking [11, 0, 0])).meters[0]).state = .running := by decide

theorem test_meterStop : ((after .meterStop (asking [11, 1, 1])).meters[1]).state = .stopped := by decide

theorem test_meterRestart : ((after .meterRestart (asking [11, 1, 2])).meters[1]).used = 0 := by decide

/-- A log with record 0 pending. -/
def faulted (s : State) : State := recordFault missFault s

theorem test_readFault :
    (after .readFault (faulted (asking [12, 0]))).cPort.tx.map Packet.payload
      = [[12, 0, 0, 1, 3, 10, 2, 0, 1, 0, 0, 0, 0, 0, 0x10, 0, 0, 0xB0, 0x04, 0, 0, 0]] := by decide

theorem test_releaseFault_services :
    (after .releaseFault (faulted (asking [13, 0]))).cPort.tx.map Packet.payload = [[13, 0, 0, 255, 0, 1]]
      ∧ (after .releaseFault (faulted (asking [13, 0]))).alert.pending = false := by decide

theorem test_clearOverflow :
    (after .clearOverflow { asking [14] with log := { base.log with overflow := true } }).log.overflow = false := by
  decide

theorem test_faultSummary :
    (after .faultSummary (faulted (asking [15]))).cPort.tx.map Packet.payload = [[15, 0, 1, 0, 0, 1]] := by decide

theorem test_portStatus :
    (after .portStatus (asking [16, 1])).cPort.tx.map Packet.payload = [[16, 0, 1, 3, 128, 0, 16, 0, 0, 0]] := by decide

theorem test_resetWarm_frees_every_slot :
    (after .resetWarm (receiving [mreq [17, 1]] (waiting slotRead))).freeList.length = 32
      ∧ statuses (after .resetWarm (receiving [mreq [17, 1]] (waiting slotRead))) = [9]
      ∧ (after .resetWarm (receiving [mreq [17, 1]] (waiting slotRead))).replies.map (fun r => r.packet.payload)
        = [[17, 0, 0, 1]] := by decide +kernel

theorem test_badRequest : statuses (after .badRequest (asking [0x40])) = [1] := by decide

/-! ## States that meet the hypotheses of the obligations

Each theorem names the obligation whose hypotheses it meets, clause by clause. -/

/-- Any management request can be about to be taken: the hypothesis `Asks` of every management statement. -/
theorem witness_asks (payload : List Byte) : (asking payload).Asks (mreq payload) payload :=
  ⟨⟨rfl, rfl⟩, rfl, rfl, rfl⟩

/-- ... and any data packet. -/
theorem witness_takes (p : Packet) : (receiving [p] guarded).Takes p := ⟨rfl, rfl⟩

theorem witness_StepTakesTheFrontCommandOrIdles :
    { guarded with pending := [.tick] }.pending = [.tick] ∧ guarded.pending = [] ∧ guarded.inReset = false
      ∧ guarded.slotTriggersDue = 0 ∧ { guarded with slotTriggersDue := 2 }.slotTriggersDue = 1 + 1 :=
  ⟨rfl, rfl, rfl, rfl, rfl⟩

theorem witness_EveryCommandCompletes : exec .expiryDue guarded = .next (after .expiryDue guarded)
    ∧ Instr.expiryDue ≠ .rstNAsserted ∧ ∀ x, Instr.expiryDue ≠ .powerOnReset x :=
  ⟨rfl, by decide, by intro x h; cases h⟩

theorem witness_AnEventWithoutItsConditions :
    guarded.packetToTake = none ∧ guarded.granted ≠ some .router ∧ guarded.granted ≠ some .parkQueue
      ∧ guarded.granted ≠ some .management ∧ guarded.granted ≠ some .alertCtl := by decide

theorem witness_RstNHoldsTheBridge :
    (after .rstNAsserted guarded).inReset = true ∧ Instr.tick ≠ .rstNAsserted
      ∧ ∀ x, Instr.tick ≠ .powerOnReset x :=
  ⟨rfl, by decide, by intro x h; cases h⟩

theorem witness_TheDomainTable :
    exec .expiryDue guarded = .next (after .expiryDue guarded) ∧ Instr.expiryDue ≠ .setDomain
      ∧ exec .setDomain guarded = .next (after .setDomain guarded) := ⟨rfl, by decide, rfl⟩

theorem witness_TheTimebase :
    (parking [item 0 (.parked .miss)]).park = [item 0 (.parked .miss)]
      ∧ (item 0 (.parked .miss)).isParked = true
      ∧ exec .resetWarm guarded = .next (after .resetWarm guarded) ∧ guarded.inReset = false
      ∧ guarded.freeList = 0 :: (List.finRange 32).tail := ⟨rfl, rfl, rfl, rfl, by decide⟩

theorem witness_Tick : guarded.inReset = false ∧ guarded.cPort.lossTicks ≠ some 2000
    ∧ guarded.mPort.lossTicks ≠ some 2000 ∧ (∀ m : Fin 4, (guarded.meters[m]).rolloverDue = false)
    ∧ (∀ it ∈ guarded.park, it.isParked = true → guarded.parkLimit ≤ age guarded.tick it.arrival →
        it.expiryDue = true)
    ∧ (∀ i : Fin 32, (guarded.slots[i]).state = .waiting → (guarded.slots[i]).deadline = guarded.tick →
        (guarded.slots[i]).overdue = true)
    ∧ guarded.slotTriggersDue = 0 := by decide

theorem witness_ARollover :
    let s := guarded.setMeter 1 { meter1 with periodCount := 999, rolloverDue := true }
    s.inReset = false ∧ (s.meters[1]).state = .running ∧ (s.meters[1]).rolloverDue = true := by decide

theorem witness_SlotOverdue : ∀ x ∈ [slotRead, slotConfirm],
    (waiting x).inReset = false ∧ ((waiting x).slots[5]).state = .waiting
      ∧ ((waiting x).slots[5]).overdue = false ∧ ((waiting x).slots[5]).deadline = (waiting x).tick := by decide

/-- A port's alignment loss of so many ticks, in the given training state. -/
def losing (training : Training) (n : Option Nat) : State :=
  { linked with mPort := { upPort .lower 128 with training := training, lossTicks := n } }

theorem witness_WordAlignment :
    (base.port .c).training = .down ∧ (linked.port .m).training ≠ .down ∧ (linked.port .m).lossTicks = none
      ∧ ((losing .up (some 1999)).port .m).lossTicks = some 1999
      ∧ ((losing .up (some 2000)).port .m).lossTicks = some 2000
      ∧ ((losing .agree (some 2000)).port .m).training ≠ .up
      ∧ ((losing .up (some 2000)).port .m).training = .up := by decide

/-- The C-port in TRAIN with a word counted so often. -/
def training (count : Nat) (last : Option LinkOffer) : State :=
  { base with cPort := { PortState.powerOn with training := .train, trainCount := count, lastOffer := last } }

theorem witness_ThreeIdenticalTrainWords :
    ((training 2 (some upperWord.offer)).port .c).training = .train
      ∧ ((training 2 (some upperWord.offer)).port .c).lastOffer = some upperWord.offer
      ∧ 3 ≤ ((training 2 (some upperWord.offer)).port .c).trainCount + 1
      ∧ ((training 1 (some upperWord.offer)).port .c).trainCount + 1 < 3
      ∧ upperWord.offer.role ≠ .lower ∧ 1 ≤ upperWord.offer.buffers ∧ upperWord.offer.payloadCode = 128
      ∧ ¬(1 ≤ { upperWord.offer with buffers := 0 }.buffers) := by decide

theorem witness_AgreedTrainWords :
    (agreeing.port .c).training = .agree ∧ (agreeing.port .c).agreed = some upperWord.offer
      ∧ upperWord.agree = true ∧ 3 ≤ (agreeing.port .c).trainCount + 1
      ∧ (agreeing.port .c).agreed ≠ some { upperWord.offer with buffers := 16 }
      ∧ (linked.port .c).training = .up
      ∧ (linked.port .c).agreed = some { role := .upper, payloadCode := 256, buffers := 16 }
      ∧ (base.port .c).training = .down := by decide

/-- The state with slot 5 WAITING obeys the laws of the tables. -/
theorem witness_TableLaw : (waiting slotRead).TableLaw where
  slots := ⟨by decide, by decide +kernel, by decide +kernel, by decide +kernel⟩
  flight := ⟨by decide +kernel, by decide +kernel, by decide +kernel⟩
  long := ⟨by decide +kernel, by decide +kernel⟩

theorem witness_Credits :
    (linked.port .c).training = .up ∧ (linked.port .c).agreed = some { role := .upper, payloadCode := 256, buffers := 16 }
      ∧ (agreeing.port .c).training = .agree ∧ (base.port .c).training = .down
      ∧ 0 < ({ linked with cPort := { linked.cPort with owed := 16 } }.port .c).owed := by decide

theorem witness_Sending :
    (∃ pkt rest, ((full linked).port .c).tx = pkt :: rest) ∧ 0 < ((full linked).port .c).credits
      ∧ ((full linked).port .c).training = .up ∧ (linked.port .m).tx = [] :=
  ⟨⟨plain, List.replicate 15 plain, rfl⟩, by decide, by decide, by decide⟩

theorem witness_AReceivedPacket :
    (linked.port .c).training = .up ∧ (linked.port .c).negotiated = some 256 ∧ (linked.port .c).rx.length < 16
      ∧ 16 ≤ ((receiving (List.replicate 16 plain) linked).port .c).rx.length
      ∧ MalformedAt { plain with length := 257 } .c 256
      ∧ ¬MalformedAt { plain with length := 256 } .c 256
      ∧ ¬MisplacedAt plain .c 1
      ∧ ¬MalformedAt (mreq [1]) .c 256 ∧ MisplacedAt { mreq [1] with dest := 2 } .c 1 := by
  refine ⟨by decide, by decide, by decide, by decide, ?_, ?_, ?_, ?_, ?_⟩ <;>
    simp [MalformedAt, MisplacedAt, plain, mreq]

theorem witness_APacketsBytes : plain.wellFormed = true := by decide

/-- No two of the ACTIVE entries 3, 4, 7 and 9 match the same pair. -/
theorem witness_DisjointLaw : guarded.DisjointLaw := by
  apply disjointLaw_of_pairs
  have active : ∀ i : Fin 64, (guarded.windows[i]).state = .active → i ∈ [3, 4, 7, 9] := by decide +kernel
  have pairs : ∀ i ∈ ([3, 4, 7, 9] : List (Fin 64)), ∀ j ∈ ([3, 4, 7, 9] : List (Fin 64)), i ≠ j →
      ((guarded.windows[i]).overlaps guarded.windows[j]
        && (guarded.windows[i]).sharesDomain guarded.windows[j]) = false := by decide +kernel
  intro i j hij hi hj
  exact pairs i (active i hi) j (active j hj) hij

theorem witness_Lookup : (guarded.windows[3]).Matches 1 0x1FFFFF ∧ (guarded.windows[3]).Matches 1 0x100000
    ∧ (guarded.windows[3]).valuesOk = true := by
  refine ⟨⟨by decide, Or.inl (by decide), by decide, by decide⟩, ⟨by decide, Or.inl (by decide), by decide, by decide⟩,
    by decide⟩

theorem witness_TheGuardSteps :
    guarded.mode = .guardMode
      ∧ (guarded.domains[sourceIndex 0]).valid = false ∧ (guarded.domains[sourceIndex 10]).valid = true
      ∧ (guarded.domains[sourceIndex 10]).missPolicy = .park ∧ (guarded.domains[sourceIndex 11]).missPolicy = .refuse
      ∧ (∀ i : Fin 64, ¬(guarded.windows[i]).Matches 1 0x900000)
      ∧ ¬(guarded.windows[9]).rights.Grant .privileged .write
      ∧ guarded.mPort.training = .up ∧ guarded.mPort.negotiated = some 128
      ∧ (guarded.windows[3]).meter = some 1 ∧ (guarded.meters[1]).state = .running
      ∧ (guarded.windows[4]).meter = none ∧ (guarded.meters[0]).state = .stopped := by
  refine ⟨by decide, by decide, by decide, by decide, by decide, ?_, ?_, by decide, by decide, by decide, by decide,
    by decide, by decide⟩
  · intro i h
    have none : ∀ i : Fin 64, (guarded.windows[i]).admits 1 0x900000 = false := by decide +kernel
    have := (admits_iff _ _ _).mpr h
    rw [none i] at this
    exact absurd this (by decide)
  · intro h
    exact absurd (h.2.1 (by decide)) (by decide)

theorem witness_TheOpenAndShutSteps :
    linked.mode = .shutMode ∧ { linked with mode := .openMode }.mode = .openMode ∧ linked.mPort.training = .up
      ∧ linked.mPort.negotiated = some 128 := by decide

/-- What the GUARD path asks is met by a WRITE of source 10 through the metered entry 3, whose meter it fills, and by
a POST through the CONFIRMED entry 4 and the AS_SENT entry 3. -/
theorem witness_AGuardForward (k : ReqKind) (hk : k ≠ .read) (i : Fin 64) (a : Addr)
    (h : (i, a) ∈ [((3 : Fin 64), (0x1FFFC0 : Addr)), (4, 0x400000)]) :
    (receiving [request k.packetKind 10 a] guarded).Takes (request k.packetKind 10 a)
      ∧ (receiving [request k.packetKind 10 a] guarded).AdmitsGuard (requestOf k (request k.packetKind 10 a)) i
      ∧ (receiving [request k.packetKind 10 a] guarded).freeList = 0 :: (List.finRange 32).tail := by
  refine ⟨witness_takes _, ?_, by rfl⟩
  simp only [List.mem_cons, Prod.mk.injEq, List.not_mem_nil, or_false] at h
  rcases h with ⟨rfl, rfl⟩ | ⟨rfl, rfl⟩ <;> cases k <;> first
    | exact absurd rfl hk
    | exact ⟨by decide, by decide, by decide, ⟨by decide, Or.inl (by decide), by decide, by decide⟩, by decide,
        ⟨by decide, by decide, by decide⟩, by intro n h; cases h; decide, by decide +revert, by decide, by decide⟩

theorem witness_AnOpenForward :
    (receiving [request .read 10 0] { linked with mode := .openMode }).Takes (request .read 10 0)
      ∧ (receiving [request .read 10 0] { linked with mode := .openMode }).AdmitsOpen
          (requestOf .read (request .read 10 0)) :=
  ⟨⟨rfl, rfl⟩, by decide, by decide, by intro n h; cases h; decide, by decide, by decide⟩

/-- A request of source 10 that misses, one that crosses its window, one that takes the last bytes of it, and the
requests of unknown sources and lacking rights: what a step refuses, parks and forwards. -/
theorem witness_ARequestNotForwarded :
    (∃ status fault, judge (takeFromC (receiving [request .write 11 0x180000] guarded))
        (requestOf .write (request .write 11 0x180000)) false = .refuse status fault)
      ∧ (∃ reason fault, judge (takeFromC (receiving [request .post 10 0x900000] guarded))
          (requestOf .post (request .post 10 0x900000)) false = .park reason fault)
      ∧ guarded.park.length < 16
      ∧ 16 ≤ (parking ((List.range 16).map fun n => item n (.parked .miss))).park.length :=
  ⟨⟨_, _, rfl⟩, ⟨_, _, rfl⟩, by decide, by decide⟩

/-- The crossing step at its boundary: 64 bytes up to the window's end, and one byte further. -/
theorem witness_Crossing :
    (guarded.windows[3]).Matches 1 0x1FFFC0 ∧ (guarded.windows[3]).Matches 1 0x1FFFC1
      ∧ 0x1FFFC0 + 64 ≤ (guarded.windows[3]).cardBase.toNat + 2 ^ (guarded.windows[3]).sizeExp
      ∧ (guarded.windows[3]).cardBase.toNat + 2 ^ (guarded.windows[3]).sizeExp < 0x1FFFC1 + 64 :=
  ⟨⟨by decide, Or.inl (by decide), by decide, by decide⟩, ⟨by decide, Or.inl (by decide), by decide, by decide⟩,
    by decide, by decide⟩

/-- A step that sends in GUARD mode. -/
theorem witness_NothingEnters :
    let s := { receiving [request .read 10 0x1234A0] guarded with pending := [.read] }
    ∃ t, step s = .next t ∧ t.mode = .guardMode ∧ t.mPort.tx.length = 1 ∧ s.mPort.tx = [] :=
  ⟨_, rfl, by decide, by decide, by decide⟩

/-- An item of source 10 through the unmetered entry 4. -/
def readyItem (kind : ReqKind) (a : Addr) : ParkItem :=
  { item 0 (.parked .slot) with
    req := { source := 10, kind := kind, tag := if kind = .post then none else some 8, address := a, length := 64,
             data := [] } }

/-- The runs of a queue's first item, with a BEHIND item after it: forwarded, refused as READ and as POST, and
parked. -/
theorem witness_AReadmissionRun :
    let of (it : ParkItem) : State := parking [it, item 1 (.parked .behind)]
    let run (it : ParkItem) : Decision := judge (of it) it.req false
    (∃ w, run (readyItem .read 0x400000) = .forward w)
      ∧ (∃ status fault, run (readyItem .post 0x4FFFFF) = .refuse status fault)
      ∧ (∃ status fault, run (readyItem .read 0x4FFFFF) = .refuse status fault)
      ∧ (∃ reason fault, run (readyItem .read 0x900000) = .park reason fault)
      ∧ (of (readyItem .read 0)).cPort.tx.length + 0 < 16 ∧ 16 ≤ (lapsingPost 15).cPort.tx.length + 1
      ∧ 16 ≤ (full (of (readyItem .read 0))).cPort.tx.length
      ∧ ((of (readyItem .read 0)).park.map ParkItem.serial).Nodup :=
  ⟨⟨_, rfl⟩, ⟨_, _, rfl⟩, ⟨_, _, rfl⟩, ⟨_, _, rfl⟩, by decide, by decide, by decide, by decide⟩

/-- A SLOT item in OPEN mode while the M-port is not UP and the hold list holds an answer. -/
theorem witness_ASlotItemWithoutTheMPort :
    let s := { holding with
      mode := .openMode, park := [item 0 (.parked .slot)], mPort := { PortState.powerOn with training := .train } }
    s.mPort.training ≠ .up ∧ s.park = [] ++ item 0 (.parked .slot) :: [] ∧ s.holdList ≠ [] ∧ s.mPort.tx.length < 16
      ∧ s.freeList ≠ [] := ⟨by decide, rfl, by decide, by decide, by decide⟩

/-- A queue with an item of every kind a trigger meets: one that waits for a slot, a BEHIND item of its source, one
of another source, and a LEAVING one. -/
def mixed : List ParkItem :=
  [readyItem .read 0x400000, item 1 (.parked .behind),
    { item 2 (.parked .miss) with req := { (item 2 (.parked .miss)).req with source := 12 } },
    { item 3 (.leaving .noWindow missFault) with req := { (item 3 (.parked .miss)).req with source := 11 } }]

theorem witness_Triggers :
    (mixed.map ParkItem.serial).Nodup
      ∧ mixed = [] ++ readyItem .read 0x400000 :: mixed.tail
      ∧ (∀ x ∈ mixed.tail, ∀ r', x.state = .parked r' → (r' == ParkReason.slot) = false)
      ∧ (∀ it ∈ mixed, it.req.source ≠ 13)
      ∧ (∀ it ∈ mixed, ∀ r, it.state = .parked r → (r == ParkReason.meter 2) = false)
      ∧ (∃ it ∈ mixed, it.isLeaving = true)
      ∧ ((mixed.tail)[0]).state = .parked .behind := by
  refine ⟨by decide, rfl, ?_, by decide, ?_, by decide, rfl⟩ <;>
    simp [mixed, readyItem, item]

/-- A set of two items with another between them; the SLOT trigger at once and waiting. -/
theorem witness_ATriggersSet :
    let s := parking [readyItem .read 0x400000, { item 1 (.parked .miss) with req := { (item 1 (.parked .miss)).req with
      source := 12 } }, { item 2 (.parked .slot) with req := { (item 2 (.parked .slot)).req with source := 11 } }]
    (s.park.filter fun it => decide (it.state = .parked .slot)).map ParkItem.serial = [0, 2]
      ∧ s.slotTriggerWaits = false ∧ { s with slotTriggerWaits := true }.slotTriggerWaits = true := by decide

theorem witness_TheClaimNearestTheHead :
    lapsing.Grants .parkQueue ∧ lapsing.abortList = []
      ∧ lapsing.park = [] ++ { item 0 (.parked (.meter 1)) with expiryDue := true } :: [item 1 (.parked .behind)]
      ∧ leaving.Grants .parkQueue ∧ leaving.abortList = []
      ∧ leaving.park = [] ++ item 0 (.leaving .noWindow missFault) :: []
      ∧ (lapsing.park.map ParkItem.serial).Nodup ∧ (leaving.park.map ParkItem.serial).Nodup
      ∧ (lapsingPost 15).Grants .parkQueue ∧ (lapsingPost 15).park.map (fun it => it.req.kind) = [.post, .read] :=
  ⟨⟨rfl, by decide⟩, rfl, rfl, ⟨rfl, by decide⟩, rfl, rfl, by decide, by decide,
    ⟨rfl, by decide⟩, by decide⟩

theorem witness_TheHeadsOfTheLists :
    aborting.Grants .parkQueue ∧ aborting.abortList ≠ [] ∧ replying.Grants .management ∧ replying.replies ≠ [] :=
  ⟨⟨rfl, by decide⟩, by decide, ⟨rfl, by decide⟩, by decide⟩

/-- Slot 5 is the last that a RETIRE, or a SET_MODE, waits for: a state of the laws' kind. -/
def lastSlot (op : LongOp) : State :=
  let s := waiting slotRead
  { s with
    longOp := op
    windows := setAt s.windows 3 { s.windows[3] with state := if op.isRetire then .draining else .active }
    slots := setAt s.slots 5 { slotRead with drainMark := op.isSetMode } }

theorem witness_FreeingASlot :
    ((lastSlot .idle).slots[5]).window = some 3 ∧ (Slot.powerOn).window = none
      ∧ (∀ j : Fin 64, ((freeSlot 5 (lastSlot (.retire 63 9 1 false))).windows[j]).state ≠ .draining)
      ∧ ((freeSlot 6 (lastSlot (.retire 63 9 1 false))).windows[3]).state = .draining
      ∧ (∀ j : Fin 32, ((freeSlot 5 (lastSlot (.setMode 63 9 .openMode 1))).slots[j]).drainMark = false)
      ∧ ((freeSlot 6 (lastSlot (.setMode 63 9 .openMode 1))).slots[5]).drainMark = true := by decide +kernel

theorem witness_ADrainedLongOperation :
    (∀ j : Fin 64, ((draining (.retire 63 9 2 true)).windows[j]).state ≠ .draining)
      ∧ (∀ j : Fin 32, ((draining (.setMode 63 9 .shutMode 3)).slots[j]).drainMark = false)
      ∧ ((lastSlot (.retire 63 9 1 false)).windows[3]).state = .draining
      ∧ ((lastSlot (.setMode 63 9 .openMode 1)).slots[5]).drainMark = true := by decide +kernel

/-- The router about to take an ANSWER that slot 5 waits for (tag 69 = 2 x 32 + 5), and one of the generation
before. -/
theorem witness_AnAnswer : ∀ x ∈ [slotRead, slotConfirm, { slotRead with kind := .write }], ∀ tag ∈ [(69 : Tag), 37],
    ∀ status ∈ [(0 : Byte), 1],
    let s := answering (memAnswer tag status [1, 2]) (waiting x)
    s.Grants .router ∧ s.holdList = [] ∧ firstOverdue s = none
      ∧ (5 : Fin 32).val = tag.toNat % 32 ∧ (s.slots[5]).state = .waiting
      ∧ ((s.slots[5]).generation.toNat = tag.toNat / 32 ↔ tag = 69) := by
  have h : ∀ x ∈ [slotRead, slotConfirm, { slotRead with kind := .write }], ∀ tag ∈ [(69 : Tag), 37],
    ∀ status ∈ [(0 : Byte), 1],
    let s := answering (memAnswer tag status [1, 2]) (waiting x)
    (s.inReset = false ∧ s.granted = some .router) ∧ s.holdList = [] ∧ firstOverdue s = none
      ∧ (5 : Fin 32).val = tag.toNat % 32 ∧ (s.slots[5]).state = .waiting
      ∧ ((s.slots[5]).generation.toNat = tag.toNat / 32 ↔ tag = 69) := by decide +kernel
  exact h

theorem witness_TheRouterPlaces :
    expiring.Grants .router ∧ expiring.holdList = [] ∧ firstOverdue expiring = some 5
      ∧ (expiring.slots[5]).upTag = some 5 ∧ holding.Grants .router ∧ holding.holdList ≠ [] :=
  ⟨⟨rfl, by decide +kernel⟩, rfl, by decide +kernel, by decide +kernel, ⟨rfl, by decide +kernel⟩, by decide⟩

/-- The four cases of R128: a pending record of the key, the overflow flag set, a pending record at the write
position, and room. -/
theorem witness_ARecording :
    let l := (faulted guarded).log
    let other : FaultInfo := { missFault with kind := .rights }
    (l.records[0]).pending = true ∧ (l.records[0]).info.kind = missFault.kind
      ∧ (∀ j : Fin 16, (l.records[j]).pending = true → j = 0)
      ∧ (∀ i : Fin 16, (l.records[i]).info.kind ≠ other.kind)
      ∧ l.overflow = false ∧ (l.records[l.writePos]).pending = false
      ∧ (l.records[{ l with writePos := 0 }.writePos]).pending = true
      ∧ { l with overflow := true }.overflow = true := by decide +kernel

theorem witness_ADueAlert : alerting.Grants .alertCtl := ⟨rfl, by decide⟩

/-- Source 10 may not manage the bridge. -/
theorem witness_ARequestOfAnUnpermittedSource :
    let p := { mreq [1] with source := 10 }
    (receiving [p] guarded).Takes p ∧ p.kind = .mreq ∧ permitted (receiving [p] guarded) p.source = false :=
  ⟨⟨rfl, rfl⟩, rfl, by decide⟩

/-- Requests of a wrong length for every row of the statement, with the lengths of R156. -/
theorem witness_AMalformedRequest :
    ∀ x ∈ [(MgmtRow.identify, 1, [(1 : Byte), 0]), (.getSetting, 2, [2]), (.setMeterSetting, 9, [3, 4]),
        (.getDomain, 2, [4]), (.setDomain, 7, [5, 0]), (.loadWindow, 17, [6]), (.widenWindow, 3, [7, 1]),
        (.readWindow, 2, [8]), (.retireEntry, 15, [9, 0]), (.retireRange, 15, [9, 1]), (.retireDomain, 15, [9, 2]),
        (.retireAll, 15, [9, 3])]
      ++ [(.setMode, 2, [10]), (.meterRun, 3, [11, 0]), (.meterStop, 3, [11, 0, 1, 0]),
        (.meterRestart, 3, [11, 0, 2, 0]), (.readFault, 2, [12]), (.releaseFault, 2, [13]), (.clearOverflow, 1, [14, 0]),
        (.faultSummary, 1, [15, 0]), (.portStatus, 2, [16]), (.resetWarm, 2, [17])],
      mreqRow x.2.2 = x.1 ∧ x.2.2.length ≠ x.2.1 := by decide

/-- Operands at the first value beyond their ranges, one request for every clause of the statement. -/
theorem witness_AnOperandOutOfRange :
    ∀ x ∈ [(MgmtRow.getSetting, 2, [(2 : Byte), 10]), (.setSetting, 4, [3, 0, 0, 0]), (.setSetting, 4, [3, 1, 15, 0]),
        (.setSetting, 3, [3, 2, 2]), (.setSetting, 3, [3, 3, 64]), (.setMeterSetting, 9, [3, 4, 2, 1, 0, 0, 0, 0, 0]),
        (.getDomain, 2, [4, 64]), (.setDomain, 7, [5, 0, 0, 16, 0, 0, 0]),
        (.loadWindow, 17, [6, 0, 17, 0, 0, 0, 0, 0, 12, 0, 0, 0, 0, 0, 0, 0, 0]),
        (.widenWindow, 3, [7, 0, 8]), (.readWindow, 2, [8, 64])]
      ++ [(.retireEntry, 15, retire 0 64 0 0 0), (.retireRange, 15, retire 1 0 0 0xFFFFFFFFFF 2),
        (.retireDomain, 15, retire 2 0 16 0 0), (.setMode, 2, [10, 3]), (.meterRun, 3, [11, 4, 0]),
        (.meterStop, 3, [11, 4, 1]), (.meterRestart, 3, [11, 4, 2]), (.readFault, 2, [12, 16]),
        (.releaseFault, 2, [13, 16]), (.portStatus, 2, [16, 2]), (.resetWarm, 2, [17, 0])],
      mreqRow x.2.2 = x.1 ∧ x.2.2.length = x.2.1 := by decide

/-- A SHARED load of 64 KiB over entry 7, and one of 16 KiB where no entry stands. -/
def loaded (base : Addr) : WindowEntry :=
  { WindowEntry.powerOn with domain := .shared, cardBase := base, sizeExp := 14 }

theorem witness_LoadWindow :
    (loaded 0xC000).valuesOk = true ∧ (loaded 0x10000).valuesOk = true
      ∧ (guarded.windows[3]).state ≠ .free ∧ (guarded.windows[20]).state = .free
      ∧ (guarded.windows[7]).state = .active ∧ (0xFFFF : Nat) < 0xC000 + 2 ^ 14 ∧ (guarded.windows[7]).cardBase.toNat = 0
      ∧ (guarded.windows[7]).sizeExp = 16
      ∧ (∀ j : Fin 64, (guarded.windows[j]).state = .active →
          (guarded.windows[j]).cardBase.toNat + 2 ^ (guarded.windows[j]).sizeExp ≤ 0x10000
            ∨ 0x10000 + 2 ^ 14 ≤ (guarded.windows[j]).cardBase.toNat) := by decide +kernel

theorem witness_WidenWindow :
    (guarded.windows[20]).state ≠ .active ∧ (guarded.windows[9]).state = .active
      ∧ (guarded.windows[9]).rights = { read := true, write := false, userOpen := false } := by decide

/-- An entry in flight and one that is not, to be retired while no long operation is in progress, and a RETIRE in
progress. -/
theorem witness_Retire :
    let s := receiving [mreq (retire 0 3 0 0 0)] (waiting slotRead)
    (s.windows[3]).state = .active ∧ (s.windows[3]).inFlight ≠ 0 ∧ (s.windows[9]).inFlight = 0
      ∧ (s.windows[20]).state ≠ .active ∧ s.longOp = .idle ∧ (draining (.retire 63 9 2 true)).longOp ≠ .idle := by
  decide +kernel

/-- A SET_MODE with a marked slot, with READ items alone, and with nothing to end. -/
theorem witness_SetMode :
    countTable (fun x : Slot => decide (x.state = .waiting)) (waiting slotRead).slots ≠ 0
      ∧ countTable (fun x : Slot => decide (x.state = .waiting)) guarded.slots = 0
      ∧ (∃ it ∈ (parking mixed).park, it.req.kind ≠ .post) ∧ (∀ it ∈ guarded.park, it.req.kind = .post)
      ∧ Mode.openMode ≠ guarded.mode := by decide +kernel

theorem witness_FaultsAreReleased :
    ((faulted guarded).log.records[0]).pending = true ∧ ((faulted guarded).log.records[1]).pending = false
      ∧ (15 : Nat) < (16 : Byte).toNat
      ∧ missFault.kind = ((faulted guarded).log.records[0]).info.kind
      ∧ missFault.source = ((faulted guarded).log.records[0]).info.source
      ∧ missFault.locus = ((faulted guarded).log.records[0]).info.locus
      ∧ (∀ j : Fin 16, j ≠ 0 → ((faulted guarded).log.records[j]).pending = false) := by decide

/-- The meter step at its boundaries (cost 1 of REQUESTS): the last charge that fits, the first that does not, and a
budget below the cost; and a length at the negotiated payload and one above it. -/
theorem witness_MeterStep :
    meter1.used + meter1.basis.costOf 64 = meter1.budget
      ∧ meter1.budget < { meter1 with used := 4 }.used + meter1.basis.costOf 64
      ∧ { meter1 with budget := 0 }.budget < meter1.basis.costOf 64
      ∧ Basis.bytes64.costOf 64 = 1 ∧ Basis.bytes64.costOf 65 = 2
      ∧ guarded.mPort.negotiated = some 128 ∧ (128 : Nat) < 129 := by decide

/-- A new period just above the 5 ticks counted, the 5 ticks themselves, and with the rollover of the next tick due. -/
theorem witness_SetMeterSetting :
    (guarded.meters[1]).periodCount = 5 ∧ (guarded.meters[1]).rolloverDue = false ∧ (5 : Nat) < 6 ∧ (5 : Nat) ≤ 5
      ∧ { meter1 with periodCount := 999, rolloverDue := true }.Law := by
  refine ⟨by decide, by decide, by decide, by decide, ?_⟩
  exact ⟨by decide, by decide, fun n h => absurd h (by decide +revert), by decide, by decide, by decide⟩

/-- A partner of the port's own role, three words of it counted but one. -/
theorem witness_OwnRole :
    let o : LinkOffer := { role := .lower, payloadCode := 64, buffers := 1 }
    ((training 2 (some o)).port .c).training = .train ∧ ((training 2 (some o)).port .c).lastOffer = some o
      ∧ 3 ≤ ((training 2 (some o)).port .c).trainCount + 1 := by decide

/-! ### The laws -/

/-- The bridge at work: a WAITING slot, an item, a pending fault, a RUNNING meter, both ports UP. -/
def working : State := { faulted (waiting slotRead) with park := [item 0 (.parked .miss), item 1 (.parked .behind)] }

theorem witness_SlotsLaw : working.SlotsLaw :=
  ⟨by decide +kernel, by decide +kernel, by decide +kernel, by decide +kernel⟩

theorem witness_RangeLaw : guarded.RangeLaw := by
  unfold State.RangeLaw
  decide +kernel

theorem upPort_Law (partner : Role) (payload : Nat) (h : offerValid ⟨partner, payload, 16⟩ = true) :
    (upPort partner payload).Law where
  negotiated_up _ := ⟨rfl, rfl⟩
  outside_up h := absurd rfl h
  agreed_in _ := Or.inr rfl
  agreed_valid o ho := by
    cases ho
    exact h
  credits := by simp [upPort]
  owed := Nat.zero_le _
  rx := Nat.zero_le _
  tx := Nat.zero_le _

theorem witness_PortsLaw : working.PortsLaw :=
  ⟨upPort_Law .upper 256 (by decide), upPort_Law .lower 128 (by decide), by decide +kernel⟩

theorem witness_MetersLaw : working.MetersLaw := by
  intro m
  have h : ∀ m : Fin 4, (1 ≤ (working.meters[m]).period ∧ (working.meters[m]).period ≤ 65535)
      ∧ (working.meters[m]).budget ≤ 65535 ∧ (working.meters[m]).next = none
      ∧ (working.meters[m]).periodCount < (working.meters[m]).period
      ∧ (working.meters[m]).used ≤ 65535 ∧ (working.meters[m]).rolloverDue = false := by decide +kernel
  obtain ⟨h1, h2, h3, h4, h6, h5⟩ := h m
  exact ⟨h1, h2, fun n hn => absurd (h3.symm.trans hn) (by simp), h4, h6, fun hd => absurd (h5.symm.trans hd) (by simp)⟩

theorem witness_LogAndAlertLaws : working.LogLaw ∧ working.AlertLaw :=
  ⟨⟨by decide +kernel, by decide +kernel⟩, ⟨by decide +kernel, by decide +kernel⟩⟩

theorem witness_ParkLaw : working.ParkLaw :=
  ⟨by decide +kernel, by decide +kernel, by decide +kernel, by decide +kernel, by decide +kernel⟩

/-- A step of that state. -/
theorem witness_AStepOfTheBridgeAtWork :
    ∃ t, step { working with pending := [.tick] } = .next t ∧ t.tick = 1201 := ⟨_, rfl, by decide +kernel⟩

end Sys2Proof.Tests
end

section
/-! The requests of the window table, as their obligations need them: reading operands back from their codes, a reply
beside a table update, and WIDEN_WINDOW (R16). -/

namespace Sys2Proof.Machine

/-! ## Operands read back from their codes -/

theorem indexOf_val {n : Nat} (i : Fin n) : indexOf n i.val = some i := by
  simp [indexOf]

theorem indexOf_of_le {n v : Nat} (h : n ≤ v) : indexOf n v = none := by
  simp [indexOf, h]

theorem indexOf_byte (i : Fin 64) : indexOf 64 (BitVec.ofNat 8 i.val).toNat = some i := by
  have hi : (BitVec.ofNat 8 i.val).toNat = i.val := by
    rw [BitVec.toNat_ofNat]
    omega
  rw [hi, indexOf_val]

/-- The rights code has eight values, and each is read back as the rights it spells (R156). -/
theorem rightsOfCode_byte (r : Rights) : rightsOfCode (BitVec.ofNat 8 r.code).toNat = some r := by
  obtain ⟨read, write, userOpen⟩ := r
  revert read write userOpen
  decide

/-- The model's test is inclusion of the three rights (R16). -/
theorem Rights.covers_iff (new old : Rights) :
    new.covers old = true ↔ (old.read = true → new.read = true) ∧ (old.write = true → new.write = true)
      ∧ (old.userOpen = true → new.userOpen = true) := by
  simp [Rights.covers, and_assoc, imp_iff_or_not]

/-! ## A reply beside a window's update -/

@[simp] theorem takeFromC_windows (s : State) : (takeFromC s).windows = s.windows := rfl

/-- The reply looks at no window: it may be placed before the table is written or after. -/
theorem reply_setWindow (p : Packet) (st : MgmtStatus) (l : List Byte) (s : State) (i : Fin 64) (e : WindowEntry) :
    reply p st l (s.setWindow i e) = (reply p st l s).setWindow i e := by
  unfold reply
  rw [placeC_eq, placeC_eq]
  rfl

@[simp] theorem replied_windows (s : State) (p : Packet) (st : MgmtStatus) (l : List Byte) :
    (s.replied p st l).windows = s.windows := by
  simp [State.replied, reply]

theorem setWindow_self (s : State) (i : Fin 64) : s.setWindow i s.windows[i] = s := by
  simp [State.setWindow, State.setWindows, setAt]

/-! ## WIDEN_WINDOW -/

/-- An index above 63 is refused whatever the rights (R16). -/
theorem exec_widenWindow_of_bad_index {s : State} {p : Packet} {c b : Byte} (h : s.Asks p [0x07, c, b])
    (hc : indexOf 64 c.toNat = none) : exec .widenWindow s = .next (s.replied p .badValue []) := by
  have htaken : exec .widenWindow s = .next (mgmtWidenWindow p (takeFromC s)) := takeMreq_of_asks h rfl _
  rw [htaken, mgmtWidenWindow, withLength_right (by rw [h.payload]; rfl)]
  simp [h.payload, byteAt, hc, State.replied]

/-- With an index and a set of rights, the state of the entry is judged first and the set second (R16). -/
theorem exec_widenWindow {s : State} {p : Packet} {i : Fin 64} {r : Rights}
    (h : s.Asks p [0x07, BitVec.ofNat 8 i.val, BitVec.ofNat 8 r.code]) :
    exec .widenWindow s = .next (
      if (s.windows[i]).state ≠ .active then s.replied p .notActive []
      else if !r.covers (s.windows[i]).rights then s.replied p .narrowing []
      else (s.replied p .ok [BitVec.ofNat 8 i.val, BitVec.ofNat 8 r.code]).setWindow i
        { s.windows[i] with rights := r }) := by
  have htaken : exec .widenWindow s = .next (mgmtWidenWindow p (takeFromC s)) := takeMreq_of_asks h rfl _
  have hi : indexOf 64 (byteAt p.payload 1) = some i := by rw [h.payload]; exact indexOf_byte i
  have hr : rightsOfCode (byteAt p.payload 2) = some r := by rw [h.payload]; exact rightsOfCode_byte r
  rw [htaken, mgmtWidenWindow, withLength_right (by rw [h.payload]; rfl)]
  simp only [hi, hr, takeFromC_windows, reply_setWindow]
  rfl

/-- Settles O48: the three outcomes of `exec_widenWindow` in their order, and the set already held is the accepted
case whose update writes the entry that stands. -/
theorem widenWindowAddsRightsToAnActiveEntry : Obligations.WidenWindowAddsRightsToAnActiveEntry := by
  refine ⟨fun s p c b h hc => exec_widenWindow_of_bad_index h (indexOf_of_le hc), fun s p i r h => ?_⟩
  intro e covers
  have hcov : r.covers (s.windows[i]).rights = true ↔ covers := Rights.covers_iff r e.rights
  have hwiden : e.state = .active → covers →
      exec .widenWindow s = .next ((s.replied p .ok [BitVec.ofNat 8 i.val, BitVec.ofNat 8 r.code]).setWindow i
        { e with rights := r }) := by
    intro hact hc
    rw [exec_widenWindow h, if_neg (not_not.mpr hact), if_neg (by simpa using hcov.mpr hc)]
  refine ⟨fun hact => ?_, fun hact hc => ?_, fun hact hc => ?_, fun hact hsame => ?_⟩
  · rw [exec_widenWindow h, if_pos hact]
  · rw [exec_widenWindow h, if_neg (not_not.mpr hact), if_pos (by simpa using hcov.not.mpr hc)]
  · rw [hwiden hact hc]
    simp [State.setWindow, State.setWindows]
  · have hheld : covers := by
      refine hcov.mp ?_
      rw [hsame, Rights.covers_iff]
      exact ⟨id, id, id⟩
    have hentry : { e with rights := r }
        = (s.replied p .ok [BitVec.ofNat 8 i.val, BitVec.ofNat 8 r.code]).windows[i] := by
      simp [hsame, e]
    rw [hwiden hact hheld, hentry, setWindow_self]

end Sys2Proof.Machine
end

section
/-! The release of faults and the clearing of the overflow flag: the four cases of a recording (R128), a reply beside a
change of the log, RELEASE_FAULT (R134) and CLEAR_OVERFLOW (R135). -/

namespace Sys2Proof.Machine

/-! ## The keys of the log and the cases of a recording -/

/-- The record is pending and has the key of the fault (R127). -/
def FaultRecord.Holds (r : FaultRecord) (f : FaultInfo) : Prop :=
  r.pending = true ∧ r.info.kind = f.kind ∧ r.info.source = f.source ∧ r.info.locus = f.locus

/-- The model's search test is the rule's key (R127). -/
theorem FaultRecord.holds_iff (r : FaultRecord) (f : FaultInfo) :
    (r.pending && r.info.sameKey f) = true ↔ r.Holds f := by
  simp [FaultInfo.sameKey, FaultRecord.Holds, and_assoc]

/-- The record that a new fault makes (R128 case 4). -/
def FaultRecord.fresh (f : FaultInfo) (now : Tick) : FaultRecord :=
  { pending := true, info := f, firstTick := now, repeatCount := 0 }

/-- A recording either raises the count of a pending record of the key, or there is none (R128 case 1). -/
theorem FaultLog.record_repeat_or_new (l : FaultLog) (f : FaultInfo) (now : Tick) :
    (∃ i : Fin 16, (l.records[i]).Holds f ∧
      l.record f now = ({ l with records := setAt l.records i (l.records[i]).bump }, false)) ∨
    ∀ i : Fin 16, ¬(l.records[i]).Holds f := by
  cases hfind : findIndex (fun r : FaultRecord => r.pending && r.info.sameKey f) l.records with
  | some i => exact .inl ⟨i, (FaultRecord.holds_iff _ _).mp (findIndex_some hfind), by simp only [record, hfind]⟩
  | none =>
    refine .inr fun i hi => ?_
    have hno := findIndex_none hfind i
    rw [(FaultRecord.holds_iff _ _).mpr hi] at hno
    cases hno

/-- Where no pending record has the key, the fault is lost, sets the flag, or takes a new record (R128 cases 2 to 4). -/
theorem FaultLog.record_new {l : FaultLog} {f : FaultInfo} (now : Tick)
    (hnew : ∀ i : Fin 16, ¬(l.records[i]).Holds f) :
    l.record f now =
      if l.overflow then (l, false)
      else if (l.records[l.writePos]).pending then ({ l with overflow := true }, true)
      else ({ l with
          records := setAt l.records l.writePos (FaultRecord.fresh f now)
          writePos := l.writePos + 1 }, l.pendingCount == 0) := by
  cases hfind : findIndex (fun r : FaultRecord => r.pending && r.info.sameKey f) l.records with
  | some i => exact absurd ((FaultRecord.holds_iff _ _).mp (findIndex_some hfind)) (hnew i)
  | none =>
    simp only [record, hfind]
    rfl

/-! ## The pending count -/

theorem FaultLog.pendingCount_eq_zero_iff (l : FaultLog) :
    l.pendingCount = 0 ↔ ∀ i : Fin 16, (l.records[i]).pending = false := by
  simp [pendingCount, countTable_eq, List.countP_eq_zero]

/-- A release takes one record out of the pending count (R134). -/
theorem FaultLog.pendingCount_release {l : FaultLog} {i : Fin 16} (hi : (l.records[i]).pending = true) :
    (l.release i).pendingCount + 1 = l.pendingCount := by
  have hsplit := countTable_setAt FaultRecord.pending l.records i { l.records[i] with pending := false }
  rw [hi] at hsplit
  exact hsplit

/-- After a release of the only record of a key, no pending record has it (R134). -/
theorem FaultLog.release_not_holds {l : FaultLog} {i : Fin 16} {f : FaultInfo}
    (hothers : ∀ j : Fin 16, j ≠ i → ¬(l.records[j]).Holds f) (j : Fin 16) :
    ¬((l.release i).records[j]).Holds f := by
  by_cases hj : j = i
  · subst hj
    simp [release, FaultRecord.Holds]
  · rw [release, setAt_get_ne _ _ hj]
    exact hothers j hj

/-! ## A reply beside a change of the log -/

theorem setLog_setAlert_self (s : State) : (s.setLog s.log).setAlert s.alert = s := rfl

@[simp] theorem takeFromC_log (s : State) : (takeFromC s).log = s.log := rfl

@[simp] theorem takeFromC_alert (s : State) : (takeFromC s).alert = s.alert := rfl

@[simp] theorem replied_log (s : State) (p : Packet) (st : MgmtStatus) (l : List Byte) :
    (s.replied p st l).log = s.log := by
  simp [State.replied, reply]

@[simp] theorem replied_alert (s : State) (p : Packet) (st : MgmtStatus) (l : List Byte) :
    (s.replied p st l).alert = s.alert := by
  simp [State.replied, reply]

/-- A new log services the alert when none of its records is pending and its flag is clear (R134, R135). -/
theorem serviceAlert_setLog (s : State) (l : FaultLog) :
    serviceAlert (s.setLog l) = (s.setLog l).setAlert
      (if l.pendingCount = 0 ∧ l.overflow = false then s.alert.serviced else s.alert) := by
  by_cases hserviced : l.pendingCount = 0 ∧ l.overflow = false
  · obtain ⟨hcount, hflag⟩ := hserviced
    simp [serviceAlert, hcount, hflag]
  · have htest : ((s.setLog l).log.pendingCount == 0 && !(s.setLog l).log.overflow) = false := by
      simpa using hserviced
    rw [serviceAlert, htest, if_neg hserviced]
    rfl

/-- The reply looks at neither the log nor the alert: it may be placed before they change or after. -/
theorem reply_setLog_setAlert (p : Packet) (st : MgmtStatus) (r : List Byte) (s : State) (l : FaultLog)
    (a : AlertCtl) :
    reply p st r ((s.setLog l).setAlert a) = ((reply p st r s).setLog l).setAlert a := by
  unfold reply
  rw [placeC_eq, placeC_eq]
  rfl

/-- The state that a request on the log leaves: the reply with the new log's summary is placed, the log is the new
one, and the alert is serviced when none of its records is pending and its flag is clear (R134, R135). -/
theorem reply_serviceAlert (p : Packet) (s : State) (l : FaultLog) :
    reply p .ok (serviceAlert ((takeFromC s).setLog l)).log.summary (serviceAlert ((takeFromC s).setLog l))
      = ((s.replied p .ok l.summary).setLog l).setAlert
          (if l.pendingCount = 0 ∧ l.overflow = false then s.alert.serviced else s.alert) := by
  rw [serviceAlert_setLog, reply_setLog_setAlert]
  rfl

/-! ## RELEASE_FAULT -/

/-- An index below a bound that fits a byte is read back from its byte. -/
theorem indexOf_byte_of_le {n : Nat} (hn : n ≤ 256) (i : Fin n) :
    indexOf n (BitVec.ofNat 8 i.val).toNat = some i := by
  have hi : (BitVec.ofNat 8 i.val).toNat = i.val := by
    rw [BitVec.toNat_ofNat]
    omega
  rw [hi, indexOf_val]

theorem exec_releaseFault_of_bad_index {s : State} {p : Packet} {c : Byte} (h : s.Asks p [0x0D, c])
    (hc : 15 < c.toNat) : exec .releaseFault s = .next (s.replied p .badValue []) := by
  have htaken : exec .releaseFault s = .next (mgmtReleaseFault p (takeFromC s)) := takeMreq_of_asks h rfl _
  have hi : indexOf 16 (byteAt p.payload 1) = none := by rw [h.payload]; exact indexOf_of_le hc
  rw [htaken, mgmtReleaseFault, withLength_right (by rw [h.payload]; rfl), hi]
  rfl

/-- With an index in range, the record named is released when it is pending (R134). -/
theorem exec_releaseFault {s : State} {p : Packet} {i : Fin 16} (h : s.Asks p [0x0D, BitVec.ofNat 8 i.val]) :
    exec .releaseFault s = .next (
      if (s.log.records[i]).pending then
        ((s.replied p .ok (s.log.release i).summary).setLog (s.log.release i)).setAlert
          (if (s.log.release i).pendingCount = 0 ∧ s.log.overflow = false then s.alert.serviced else s.alert)
      else s.replied p .notPending []) := by
  have htaken : exec .releaseFault s = .next (mgmtReleaseFault p (takeFromC s)) := takeMreq_of_asks h rfl _
  have hi : indexOf 16 (byteAt p.payload 1) = some i := by
    rw [h.payload]
    exact indexOf_byte_of_le (by decide) i
  rw [htaken, mgmtReleaseFault, withLength_right (by rw [h.payload]; rfl), hi]
  simp only [takeFromC_log, reply_serviceAlert]
  rfl

/-! ## CLEAR_OVERFLOW -/

/-- The log with the overflow flag clear (R135). -/
def FaultLog.cleared (l : FaultLog) : FaultLog := { l with overflow := false }

theorem FaultLog.cleared_of_clear {l : FaultLog} (h : l.overflow = false) : l.cleared = l := by
  rw [cleared, ← h]

/-- With the flag set, it is cleared and the alert is serviced when no record is pending (R135). -/
theorem exec_clearOverflow_of_set {s : State} {p : Packet} (h : s.Asks p [0x0E]) (hset : s.log.overflow = true) :
    exec .clearOverflow s = .next (((s.replied p .ok s.log.cleared.summary).setLog s.log.cleared).setAlert
      (if s.log.pendingCount = 0 then s.alert.serviced else s.alert)) := by
  have htaken : exec .clearOverflow s = .next (mgmtClearOverflow p (takeFromC s)) := takeMreq_of_asks h rfl _
  rw [htaken, mgmtClearOverflow, withLength_right (by rw [h.payload]; rfl)]
  simp only [takeFromC_log, hset, if_true, reply_serviceAlert]
  rw [if_congr (and_iff_left trivial) rfl rfl]
  rfl

/-- With the flag clear already, the request reads the summary and changes nothing (R135). -/
theorem exec_clearOverflow_of_clear {s : State} {p : Packet} (h : s.Asks p [0x0E]) (hclear : s.log.overflow = false) :
    exec .clearOverflow s = .next (s.replied p .ok s.log.summary) := by
  have htaken : exec .clearOverflow s = .next (mgmtClearOverflow p (takeFromC s)) := takeMreq_of_asks h rfl _
  rw [htaken, mgmtClearOverflow, withLength_right (by rw [h.payload]; rfl)]
  simp [hclear, State.replied]

/-- The whole effect of CLEAR_OVERFLOW, whatever the flag (R135). -/
theorem exec_clearOverflow {s : State} {p : Packet} (h : s.Asks p [0x0E]) :
    exec .clearOverflow s = .next (((s.replied p .ok s.log.cleared.summary).setLog s.log.cleared).setAlert
      (if s.log.overflow = true ∧ (∀ i : Fin 16, (s.log.records[i]).pending = false) then s.alert.serviced
        else s.alert)) := by
  cases hflag : s.log.overflow with
  | true => simp only [exec_clearOverflow_of_set h hflag, FaultLog.pendingCount_eq_zero_iff, true_and]
  | false =>
    have hstands : ((s.replied p .ok s.log.summary).setLog s.log).setAlert s.alert = s.replied p .ok s.log.summary := by
      simpa using setLog_setAlert_self (s.replied p .ok s.log.summary)
    rw [exec_clearOverflow_of_clear h hflag, FaultLog.cleared_of_clear hflag, if_neg (by simp), hstands]

/-- With the flag clear, a fault is a repeat, finds no room, or takes a new record: cases 1, 3 and 4 of R128. -/
theorem FaultLog.record_of_clear {l : FaultLog} (hclear : l.overflow = false) (f : FaultInfo) (now : Tick) :
    (∃ i : Fin 16, (l.records[i]).Holds f ∧
      (l.record f now).1 = { l with records := setAt l.records i (l.records[i]).bump }) ∨
    ((∀ i : Fin 16, ¬(l.records[i]).Holds f) ∧ (l.records[l.writePos]).pending = true ∧
      (l.record f now).1 = { l with overflow := true }) ∨
    ((∀ i : Fin 16, ¬(l.records[i]).Holds f) ∧ (l.records[l.writePos]).pending = false ∧
      (l.record f now).1 =
        { l with
          records := setAt l.records l.writePos (FaultRecord.fresh f now)
          writePos := l.writePos + 1 }) := by
  rcases l.record_repeat_or_new f now with ⟨i, hi, hrec⟩ | hnew
  · exact .inl ⟨i, hi, by rw [hrec]⟩
  · have hrec := record_new now hnew
    cases hroom : (l.records[l.writePos]).pending with
    | true => exact .inr (.inl ⟨hnew, rfl, by simp only [hrec, hclear, hroom]; rfl⟩)
    | false => exact .inr (.inr ⟨hnew, rfl, by simp only [hrec, hclear, hroom]; rfl⟩)

/-- Settles O51: the outcomes of `exec_releaseFault`, the recording after a release by `FaultLog.record_new`, and the
effect of `exec_clearOverflow` with the recordings that `FaultLog.record_of_clear` leaves. -/
theorem faultsAreReleasedAndTheOverflowCleared : Obligations.FaultsAreReleasedAndTheOverflowCleared := by
  refine ⟨fun s p c h hc => exec_releaseFault_of_bad_index h hc, fun s p i h => ⟨fun hidle => ?_, fun hpend => ?_⟩,
    fun s p h => ?_⟩
  · rw [exec_releaseFault h, hidle]
    rfl
  · refine ⟨FaultLog.pendingCount_release hpend, by rw [exec_releaseFault h, if_pos hpend]; rfl, ?_⟩
    intro f now _ _ _ hothers
    have hnew := FaultLog.release_not_holds (l := s.log) (i := i) (f := f)
      fun j hj ⟨hp, hkey⟩ => hothers j hj hp hkey
    change ((s.log.release i).record f now).1 = _
    rw [FaultLog.record_new now hnew, apply_ite Prod.fst, apply_ite Prod.fst]
    rfl
  · exact ⟨exec_clearOverflow h, exec_clearOverflow_of_clear h, FaultLog.record_of_clear (l := s.log.cleared) rfl⟩

end Sys2Proof.Machine
end

section
/-! The frame of every command: the standing items and the alert's settings stand under all but six commands, and the
straps under all but POWER_ON_RESET (R153). -/

namespace Sys2Proof.Machine

/-! ## Updates of other items -/

section
variable (s : State)
@[simp] theorem setWindows_kept (x : Vector WindowEntry 64) : (s.setWindows x).kept = s.kept := rfl
@[simp] theorem setWindow_kept (i : Fin 64) (x : WindowEntry) : (s.setWindow i x).kept = s.kept := rfl
@[simp] theorem setPark_kept (x : List ParkItem) : (s.setPark x).kept = s.kept := rfl
@[simp] theorem setAbortList_kept (x : List AbortEntry) : (s.setAbortList x).kept = s.kept := rfl
@[simp] theorem setSlots_kept (x : Vector Slot 32) : (s.setSlots x).kept = s.kept := rfl
@[simp] theorem setHoldList_kept (x : List HoldEntry) : (s.setHoldList x).kept = s.kept := rfl
@[simp] theorem setMeters_kept (x : Vector Meter 4) : (s.setMeters x).kept = s.kept := rfl
@[simp] theorem setMeter_kept (m : Fin 4) (x : Meter) : (s.setMeter m x).kept = s.kept := rfl
@[simp] theorem setLog_kept (x : FaultLog) : (s.setLog x).kept = s.kept := rfl
@[simp] theorem setLongOp_kept (x : LongOp) : (s.setLongOp x).kept = s.kept := rfl
@[simp] theorem setReplies_kept (x : List Reply) : (s.setReplies x).kept = s.kept := rfl
@[simp] theorem setCPort_kept (x : PortState) : (s.setCPort x).kept = s.kept := rfl
@[simp] theorem setMPort_kept (x : PortState) : (s.setMPort x).kept = s.kept := rfl

@[simp] theorem setPort_kept (p : Port) (x : PortState) : (s.setPort p x).kept = s.kept := by
  cases p <;> rfl

/-- A new alert record with the same mask and destination leaves the alert's settings. -/
theorem setAlert_kept {x : AlertCtl} (hmask : x.mask = s.alert.mask) (hdest : x.dest = s.alert.dest) :
    (s.setAlert x).kept = s.kept := by
  simp only [State.kept, State.alertSettings, State.setAlert_alert, hmask, hdest]
  rfl
end

/-! ## The alert controller -/

theorem AlertCtl.release_settings (a : AlertCtl) (up : Bool) :
    (a.release up).mask = a.mask ∧ (a.release up).dest = a.dest := by
  unfold AlertCtl.release; split <;> exact ⟨rfl, rfl⟩

theorem AlertCtl.withdraw_settings (a : AlertCtl) : a.withdraw.mask = a.mask ∧ a.withdraw.dest = a.dest := by
  unfold AlertCtl.withdraw; split <;> exact ⟨rfl, rfl⟩

@[simp] theorem serviceAlert_kept (s : State) : (serviceAlert s).kept = s.kept := by
  unfold serviceAlert; split <;> rfl

@[simp] theorem placeAlert_kept (s : State) : (placeAlert s).kept = s.kept := by
  unfold placeAlert
  split
  · exact (setAlert_kept _ rfl rfl).trans (placeC_kept _ _)
  · rfl

/-! ## The link ports -/

@[simp] theorem cPortLeavesUp_kept (tr : Training) (s : State) : (cPortLeavesUp tr s).kept = s.kept := by
  obtain ⟨hmask, hdest⟩ := s.alert.withdraw_settings
  have hemptied : (((((s.setCPort (s.cPort.leaveUp tr)).setPark []).setAbortList []).setReplies []).setAlert
      s.alert.withdraw).kept = s.kept := setAlert_kept _ hmask hdest
  unfold cPortLeavesUp
  dsimp only
  split
  · exact (foldl_kept recordLeavingFault_kept _ _).trans hemptied
  · rw [trigger_kept, setHoldList_kept]
    exact (foldl_kept recordLeavingFault_kept _ _).trans hemptied

@[simp] theorem mPortLeavesUp_kept (tr : Training) (s : State) : (mPortLeavesUp tr s).kept = s.kept := by
  unfold mPortLeavesUp
  dsimp only
  rw [trigger_kept, foldl_kept fun _ _ => recordFault_kept _ _, foldl_kept loseSlot_kept, setMPort_kept]

@[simp] theorem portLeavesUp_kept (p : Port) (tr : Training) (s : State) : (portLeavesUp p tr s).kept = s.kept := by
  cases p with
  | c => exact cPortLeavesUp_kept tr s
  | m => exact mPortLeavesUp_kept tr s

@[simp] theorem portReachesUp_kept (p : Port) (o : LinkOffer) (s : State) : (portReachesUp p o s).kept = s.kept := by
  cases p with
  | c =>
    obtain ⟨hmask, hdest⟩ := s.alert.release_settings true
    exact setAlert_kept _ hmask hdest
  | m => rfl

theorem receiveTrainWord_kept (p : Port) (w : TrainWord) (s : State) : (receiveTrainWord p w s).kept = s.kept := by
  unfold receiveTrainWord
  dsimp only
  cases (s.port p).training with
  | down | mismatch => rfl
  | train => exact setPort_kept _ _ _
  | agree =>
    dsimp only
    repeat' split
    all_goals simp
  | up =>
    dsimp only
    split
    · rfl
    · exact portLeavesUp_kept _ _ _

@[simp] theorem expireLoss_kept (p : Port) (s : State) : (expireLoss p s).kept = s.kept := by
  unfold expireLoss
  dsimp only
  repeat' split
  all_goals simp

/-! ## Claims for a C send place, and the router -/

theorem itemLeaves_kept (it : ParkItem) (st : AnswerStatus) (f : FaultInfo) (s : State) :
    (itemLeaves it st f s).kept = s.kept := by
  simp [itemLeaves]

theorem leaveItem_kept (it : ParkItem) (s : State) : (leaveItem it s).kept = s.kept := by
  unfold leaveItem
  split
  · exact itemLeaves_kept _ _ _ _
  · rfl

theorem takeParkClaim_kept {act : ParkItem → State → State} (hact : ∀ it u, (act it u).kept = u.kept) (b : Bool)
    (s : State) : (takeParkClaim b act s).kept = s.kept := by
  unfold takeParkClaim
  repeat' split
  all_goals simp [hact]

theorem placeAbortHead_kept (s : State) : (placeAbortHead s).kept = s.kept := by
  unfold placeAbortHead
  repeat' split
  all_goals simp

theorem placeReplyHead_kept (s : State) : (placeReplyHead s).kept = s.kept := by
  unfold placeReplyHead
  repeat' split
  all_goals simp

theorem placeHoldHead_kept (s : State) : (placeHoldHead s).kept = s.kept := by
  unfold placeHoldHead
  dsimp only
  repeat' split
  all_goals simp

theorem takeAnswer_kept (s : State) : (takeAnswer s).kept = s.kept := by
  unfold takeAnswer
  repeat' split
  all_goals simp

theorem takeDeadlineExpiry_kept (s : State) : (takeDeadlineExpiry s).kept = s.kept := by
  unfold takeDeadlineExpiry
  repeat' split
  all_goals simp

/-! ## Time -/

@[simp] theorem rollOverIfDue_kept (m : Fin 4) (s : State) : (rollOverIfDue m s).kept = s.kept := by
  unfold rollOverIfDue
  split
  · simp [rollOver, meterTrigger]
  · rfl

@[simp] theorem markExpired_kept (s : State) : (markExpired s).kept = s.kept := rfl

/-- What TICK takes before it advances the time leaves the standing items, the timebase among them. -/
theorem settleDue_kept (s : State) : (settleDue s).kept = s.kept := by
  unfold settleDue
  dsimp only
  rw [takeDueTriggers_kept, foldl_kept fun _ _ => slotBecomesOverdue_kept _ _, markExpired_kept,
    foldl_kept fun _ _ => rollOverIfDue_kept _ _, expireLoss_kept, expireLoss_kept]

/-- The advance itself writes the timebase and no other standing item. -/
theorem advanceTime_kept (s : State) : (advanceTime s).kept = (s.setTick (s.tick + 1)).kept := rfl

theorem exec_tick (s : State) : exec .tick s = whenRunning s fun u => advanceTime (settleDue u) := rfl

/-! ## Requests taken from the C-port -/

theorem takeRequest_kept (pk : PacketKind) (k : ReqKind) (s : State) : (takeRequest pk k s).kept = s.kept := by
  unfold takeRequest
  repeat' split
  all_goals simp

section
variable {α : Type} {f : State → α} (hpart : ∀ {u v : State}, u.kept = v.kept → f u = f v)
include hpart

/-- A part of the kept items that a row's body leaves is left by the taking of the row's MREQ. -/
theorem takeMreq_part {row : MgmtRow} {body : Packet → State → State} (hbody : ∀ p u, f (body p u) = f u)
    (s : State) : f (takeMreq row body s) = f s := by
  unfold takeMreq
  dsimp only
  split
  · split
    · split
      · rw [hbody, hpart (takeFromC_kept s)]
      · exact hpart (by simp)
    · rfl
  · rfl

/-- A part of the kept items that the effect behind a row's length check leaves is left by the row. -/
theorem withLength_part {effect : State → State} (heffect : ∀ u, f (effect u) = f u) (n : Nat) (p : Packet)
    (s : State) : f (withLength n p s effect) = f s := by
  unfold withLength
  split
  · exact heffect s
  · exact hpart (reply_kept _ _ _ _)
end

/-- What an event leaves is left by its command, RST_N high or low. -/
theorem whenRunning_frame {α : Type} {f : State → α} {event : State → State} {s t : State}
    (h : whenRunning s event = .next t) (hevent : f (event s) = f s) : f t = f s := by
  unfold whenRunning at h
  injection h with h
  subst h
  split
  · rfl
  · exact hevent

/-- A row leaves the standing items when the effect behind its length check does. -/
theorem withLength_kept {f : State → State} (hf : ∀ u, (f u).kept = u.kept) (n : Nat) (p : Packet) (s : State) :
    (withLength n p s f).kept = s.kept :=
  withLength_part id hf n p s

/-! ## The rows of the management unit -/

theorem mgmtIdentify_kept (p : Packet) (s : State) : (mgmtIdentify p s).kept = s.kept :=
  withLength_kept (fun _ => reply_kept _ _ _ _) _ _ _

theorem mgmtGetSetting_kept (p : Packet) (s : State) : (mgmtGetSetting p s).kept = s.kept := by
  refine withLength_kept (fun u => ?_) _ _ _
  split <;> simp

theorem mgmtSetMeterSetting_kept (p : Packet) (s : State) : (mgmtSetMeterSetting p s).kept = s.kept := by
  refine withLength_kept (fun u => ?_) _ _ _
  dsimp only
  repeat' split
  all_goals simp [meterTrigger]

theorem meterControl_kept (code : Nat) (act : Meter → Meter) (gives : Bool) (p : Packet) (s : State) :
    (meterControl code act gives p s).kept = s.kept := by
  refine withLength_kept (fun u => ?_) _ _ _
  dsimp only
  repeat' split
  all_goals simp [meterTrigger]

theorem mgmtGetDomain_kept (p : Packet) (s : State) : (mgmtGetDomain p s).kept = s.kept := by
  refine withLength_kept (fun u => ?_) _ _ _
  split <;> simp

theorem mgmtLoadWindow_kept (p : Packet) (s : State) : (mgmtLoadWindow p s).kept = s.kept := by
  refine withLength_kept (fun u => ?_) _ _ _
  repeat' split
  all_goals simp [missTrigger]

theorem mgmtWidenWindow_kept (p : Packet) (s : State) : (mgmtWidenWindow p s).kept = s.kept := by
  refine withLength_kept (fun u => ?_) _ _ _
  dsimp only
  repeat' split
  all_goals simp

theorem mgmtReadWindow_kept (p : Packet) (s : State) : (mgmtReadWindow p s).kept = s.kept := by
  refine withLength_kept (fun u => ?_) _ _ _
  split <;> simp

theorem mgmtReadFault_kept (p : Packet) (s : State) : (mgmtReadFault p s).kept = s.kept := by
  refine withLength_kept (fun u => ?_) _ _ _
  split <;> simp

theorem mgmtReleaseFault_kept (p : Packet) (s : State) : (mgmtReleaseFault p s).kept = s.kept := by
  refine withLength_kept (fun u => ?_) _ _ _
  dsimp only
  repeat' split
  all_goals simp

theorem mgmtClearOverflow_kept (p : Packet) (s : State) : (mgmtClearOverflow p s).kept = s.kept := by
  refine withLength_kept (fun u => ?_) _ _ _
  dsimp only
  rw [reply_kept]
  split
  · rw [serviceAlert_kept, setLog_kept]
  · rfl

theorem mgmtFaultSummary_kept (p : Packet) (s : State) : (mgmtFaultSummary p s).kept = s.kept :=
  withLength_kept (fun _ => reply_kept _ _ _ _) _ _ _

theorem mgmtPortStatus_kept (p : Packet) (s : State) : (mgmtPortStatus p s).kept = s.kept := by
  refine withLength_kept (fun u => ?_) _ _ _
  split <;> simp

/-! ### RETIRE -/

theorem retireSelected_kept (l : List (Fin 64)) (b : Bool) (p : Packet) (s : State) :
    (retireSelected l b p s).kept = s.kept := by
  have hretired : (l.foldl retireEntryAt s).kept = s.kept := foldl_kept (fun _ _ => setWindow_kept _ _ _) _ _
  unfold retireSelected
  dsimp only
  split
  · rw [setLongOp_kept, hretired]
  · rw [reply_kept, hretired]

theorem retireChecked_kept {f : State → State} (hf : ∀ u, (f u).kept = u.kept) (p : Packet) (s : State) :
    (retireChecked p s f).kept = s.kept := by
  refine withLength_kept (fun u => ?_) _ _ _
  split
  · exact hf u
  · exact reply_kept _ _ _ _

theorem mgmtRetireEntry_kept (p : Packet) (s : State) : (mgmtRetireEntry p s).kept = s.kept := by
  refine retireChecked_kept (fun u => ?_) _ _
  repeat' split
  all_goals simp [retireSelected_kept]

theorem mgmtRetireRange_kept (p : Packet) (s : State) : (mgmtRetireRange p s).kept = s.kept := by
  refine retireChecked_kept (fun u => ?_) _ _
  dsimp only
  repeat' split
  all_goals simp [retireSelected_kept]

theorem mgmtRetireDomain_kept (p : Packet) (s : State) : (mgmtRetireDomain p s).kept = s.kept := by
  refine retireChecked_kept (fun u => ?_) _ _
  split <;> simp [retireSelected_kept]

theorem mgmtRetireAll_kept (p : Packet) (s : State) : (mgmtRetireAll p s).kept = s.kept :=
  retireChecked_kept (fun _ => retireSelected_kept _ _ _ _) _ _

/-! ### RESET(WARM) -/

theorem resetOutstanding_kept (s : State) : (resetOutstanding s).kept = s.kept := by
  unfold resetOutstanding
  dsimp only
  rw [trigger_kept, setMPort_kept, foldl_kept resetSlot_kept]

theorem abortLongOp_kept (a h : Nat) (s : State) : (abortLongOp a h s).kept = s.kept := by
  unfold abortLongOp
  split <;> simp

theorem warmReset_kept (p : Packet) (s : State) : (warmReset p s).kept = s.kept := by
  unfold warmReset
  dsimp only
  rw [listReply_kept, abortLongOp_kept, setMeters_kept, setWindows_kept, resetOutstanding_kept, abortPark_kept]

theorem mgmtResetWarm_kept (p : Packet) (s : State) : (mgmtResetWarm p s).kept = s.kept := by
  refine withLength_kept (fun u => ?_) _ _ _
  split
  · exact warmReset_kept _ _
  · exact reply_kept _ _ _ _

/-! ### The rows with a standing item of their own -/

theorem straps_of_kept {u v : State} (h : u.kept = v.kept) : u.straps = v.straps :=
  congrArg (fun k => k.1.straps) h

theorem tick_of_kept {u v : State} (h : u.kept = v.kept) : u.tick = v.tick :=
  congrArg (fun k => k.1.tick) h

theorem writeSetting_straps {s t : State} {item v : Nat} (h : writeSetting s item v = some t) :
    t.straps = s.straps := by
  unfold writeSetting at h
  split at h
  · split at h <;> cases h; rfl
  · split at h <;> cases h; rfl
  · obtain ⟨m, -, rfl⟩ := Option.map_eq_some_iff.mp h
    rfl
  · split at h <;> cases h; rfl
  · cases h

theorem mgmtSetSetting_straps (p : Packet) (s : State) : (mgmtSetSetting p s).straps = s.straps := by
  unfold mgmtSetSetting
  dsimp only
  split
  · exact straps_of_kept (reply_kept _ _ _ _)
  · split
    · exact straps_of_kept (reply_kept _ _ _ _)
    · refine withLength_part straps_of_kept (fun u => ?_) _ _ _
      split
      next t hwritten => exact (straps_of_kept (reply_kept _ _ _ _)).trans (writeSetting_straps hwritten)
      next => exact straps_of_kept (reply_kept _ _ _ _)

theorem mgmtSetDomain_straps (p : Packet) (s : State) : (mgmtSetDomain p s).straps = s.straps := by
  refine withLength_part straps_of_kept (fun u => ?_) _ _ _
  split
  next i r _ _ =>
    exact (straps_of_kept (reply_kept _ _ _ (u.setDomains (setAt u.domains i r)))).trans rfl
  next => exact straps_of_kept (reply_kept _ _ _ _)

theorem changeMode_straps (m : Mode) (p : Packet) (s : State) : (changeMode m p s).straps = s.straps := by
  have hended : (abortPark true (s.setModeField m)).straps = s.straps :=
    (straps_of_kept (abortPark_kept true (s.setModeField m))).trans rfl
  unfold changeMode
  dsimp only
  split
  · exact hended
  · split
    · exact (straps_of_kept (listReply_kept _ _ _ _)).trans hended
    · exact (straps_of_kept (reply_kept _ _ _ _)).trans hended

theorem mgmtSetMode_straps (p : Packet) (s : State) : (mgmtSetMode p s).straps = s.straps := by
  refine withLength_part straps_of_kept (fun u => ?_) _ _ _
  split
  · exact straps_of_kept (reply_kept _ _ _ _)
  · split
    · exact straps_of_kept (reply_kept _ _ _ _)
    · split
      · exact straps_of_kept (reply_kept _ _ _ _)
      · exact changeMode_straps _ _ _

/-! ## The commands -/

/-- The commands that have a standing item of their own to change: the two of RST_N, TICK, and three requests. -/
def changesStanding : Instr → Bool
  | .powerOnReset _ | .rstNAsserted | .tick | .setSetting | .setDomain | .setMode => true
  | _ => false

/-- An event that only writes a port's record leaves the standing items. -/
theorem portEvent_kept {p : Port} {x : State → PortState} {s t : State}
    (h : whenRunning s (fun u => u.setPort p (x u)) = .next t) : t.kept = s.kept :=
  whenRunning_frame h (setPort_kept s p (x s))

/-- The command of a management row leaves the standing items when the row's body does. -/
theorem rowEvent_kept {row : MgmtRow} {body : Packet → State → State} {s t : State}
    (h : whenRunning s (takeMreq row body) = .next t) (hbody : ∀ p u, (body p u).kept = u.kept) : t.kept = s.kept :=
  whenRunning_frame h (takeMreq_part id hbody s)

/-- The standing items, and the alert's settings, stand under every command that has none of its own. -/
theorem exec_kept {c : Instr} {s t : State} (h : exec c s = .next t) (hc : changesStanding c = false) :
    t.kept = s.kept := by
  cases c with
  | powerOnReset | rstNAsserted | tick | setSetting | setDomain | setMode => cases hc
  | meterRollover m => exact whenRunning_frame h (rollOverIfDue_kept m s)
  | expiryDue => exact whenRunning_frame h (markExpired_kept s)
  | slotOverdue i => exact whenRunning_frame h (slotBecomesOverdue_kept i s)
  | wordAlignmentAcquired p => exact whenRunning_frame h (by split <;> simp)
  | alignmentLost p => exact whenRunning_frame h (by split <;> simp)
  | alignmentRegained p => exact whenRunning_frame h (by split <;> simp)
  | alignmentLossExpiry p => exact whenRunning_frame h (expireLoss_kept p s)
  | trainWord p w => exact whenRunning_frame h (receiveTrainWord_kept p w s)
  | creditWord p n => exact portEvent_kept (show execCreditWord p n s = .next t from h)
  | idleWord p => exact portEvent_kept (show execIdleWord p s = .next t from h)
  | sendCredit p => exact whenRunning_frame h (by split <;> simp)
  | sendPacket p =>
    refine whenRunning_frame h ?_
    split
    · cases p with
      | c => exact setCPort_kept s _
      | m => exact (slotTrigger_kept _).trans (setMPort_kept s _)
    · rfl
  | packetReceived p ok pkt => exact portEvent_kept (show execPacketReceived p ok pkt s = .next t from h)
  | read | write | post => exact whenRunning_frame h (takeRequest_kept _ _ s)
  | answer => exact whenRunning_frame h (takeAnswer_kept s)
  | retireComplete => exact whenRunning_frame h (completeRetire_kept s)
  | setModeComplete => exact whenRunning_frame h (completeSetMode_kept s)
  | deadlineExpiry => exact whenRunning_frame h (takeDeadlineExpiry_kept s)
  | holdListPlace => exact whenRunning_frame h (placeHoldHead_kept s)
  | parkExpiry => exact whenRunning_frame h (takeParkClaim_kept (fun _ _ => itemLeaves_kept _ _ _ _) _ s)
  | leavingAnswer => exact whenRunning_frame h (takeParkClaim_kept leaveItem_kept _ s)
  | abortListPlace => exact whenRunning_frame h (placeAbortHead_kept s)
  | mreplyPlace => exact whenRunning_frame h (placeReplyHead_kept s)
  | alert => exact whenRunning_frame h (placeAlert_kept s)
  | identify => exact rowEvent_kept h mgmtIdentify_kept
  | getSetting => exact rowEvent_kept h mgmtGetSetting_kept
  | setMeterSetting => exact rowEvent_kept h mgmtSetMeterSetting_kept
  | getDomain => exact rowEvent_kept h mgmtGetDomain_kept
  | loadWindow => exact rowEvent_kept h mgmtLoadWindow_kept
  | widenWindow => exact rowEvent_kept h mgmtWidenWindow_kept
  | readWindow => exact rowEvent_kept h mgmtReadWindow_kept
  | retireEntry => exact rowEvent_kept h mgmtRetireEntry_kept
  | retireRange => exact rowEvent_kept h mgmtRetireRange_kept
  | retireDomain => exact rowEvent_kept h mgmtRetireDomain_kept
  | retireAll => exact rowEvent_kept h mgmtRetireAll_kept
  | meterRun | meterStop | meterRestart => exact rowEvent_kept h (meterControl_kept _ _ _)
  | readFault => exact rowEvent_kept h mgmtReadFault_kept
  | releaseFault => exact rowEvent_kept h mgmtReleaseFault_kept
  | clearOverflow => exact rowEvent_kept h mgmtClearOverflow_kept
  | faultSummary => exact rowEvent_kept h mgmtFaultSummary_kept
  | portStatus => exact rowEvent_kept h mgmtPortStatus_kept
  | resetWarm => exact rowEvent_kept h mgmtResetWarm_kept
  | badRequest => exact rowEvent_kept h fun _ _ => reply_kept _ _ _ _

/-- Only the release of RST_N samples the straps (R153): every other command leaves them. -/
theorem exec_straps {c : Instr} {s t : State} (h : exec c s = .next t) (hc : ∀ straps, c ≠ .powerOnReset straps) :
    t.straps = s.straps := by
  cases c with
  | powerOnReset straps => exact absurd rfl (hc straps)
  | rstNAsserted => cases h; rfl
  | tick =>
    rw [exec_tick] at h
    refine whenRunning_frame h ?_
    rw [straps_of_kept (advanceTime_kept _), State.setTick_straps, straps_of_kept (settleDue_kept s)]
  | setSetting => exact whenRunning_frame h (takeMreq_part straps_of_kept mgmtSetSetting_straps s)
  | setDomain => exact whenRunning_frame h (takeMreq_part straps_of_kept mgmtSetDomain_straps s)
  | setMode => exact whenRunning_frame h (takeMreq_part straps_of_kept mgmtSetMode_straps s)
  | _ => exact straps_of_kept (exec_kept h rfl)

end Sys2Proof.Machine
end

section
/-! IDENTIFY (R153) and the timebase (R151). -/

namespace Sys2Proof.Machine

/-! ## Bytes of a word, and the requests that read -/

/-- The one byte of a number is the word cut or extended to eight bits. -/
theorem leBytes_one_toNat {w : Nat} (x : BitVec w) : leBytes 1 x.toNat = [x.setWidth 8] := by
  simp [leBytes, BitVec.ofNat_toNat]

theorem exec_identify {s : State} {p : Packet} (h : s.Asks p [0x01]) :
    exec .identify s = .next (s.replied p .ok (identityBytes s.straps)) := by
  have htaken : exec .identify s = .next (mgmtIdentify p (takeFromC s)) := takeMreq_of_asks h rfl _
  rw [htaken, mgmtIdentify, withLength_right (by rw [h.payload]; rfl)]
  rfl

/-- The identity record byte for byte (R153). -/
theorem identityBytes_eq (straps : Straps) :
    identityBytes straps = [0x17, 0x2D, 0x40, 0x64, 1, 64, 32, 16, 16, 4, 0x00, 0x01, straps.msrc.setWidth 8,
      (match straps.smode with
       | .startOpen => 0
       | .startShut => 2), straps.bid.setWidth 8] := by
  rw [identityBytes, leBytes_one_toNat, leBytes_one_toNat]
  cases straps.smode <;> rfl

/-- Settles O41: the record that `exec_identify` answers with, spelled by `identityBytes_eq`, and the straps' frame
`exec_straps`. -/
theorem identifyReturnsTheIdentityAndTheStraps : Obligations.IdentifyReturnsTheIdentityAndTheStraps := by
  refine ⟨fun s p h => ?_, fun straps s => ⟨_, rfl, rfl⟩, fun c s t h hc => exec_straps h hc⟩
  have hanswer := exec_identify h
  rw [identityBytes_eq] at hanswer
  exact hanswer

/-! ## The timebase -/

/-- TICK adds 1 to the timebase it finds: what is taken before it leaves the timebase (R151). -/
theorem exec_tick_tick {s : State} (h : s.inReset = false) : ∃ t, exec .tick s = .next t ∧ t.tick = s.tick + 1 := by
  refine ⟨advanceTime (settleDue s), by rw [exec_tick, whenRunning_high h], ?_⟩
  rw [tick_of_kept (advanceTime_kept _), State.setTick_tick, tick_of_kept (settleDue_kept s)]

/-- An age is the difference of the two ticks modulo 2^32 (R151). -/
theorem age_eq (now since : Tick) : age now since = (now.toNat + 2 ^ 32 - since.toNat) % 2 ^ 32 := by
  have hsince := since.isLt
  rw [age, BitVec.toNat_sub]
  congr 1
  omega

/-- A deadline lies the answer timeout ahead, modulo 2^32 (R94, R151). -/
theorem takeSlot_deadline {s : State} {i : Fin 32} {rest : List (Fin 32)} (hfree : s.freeList = i :: rest)
    (k : SlotKind) (w : Option (Fin 64)) (r : Request) :
    ((takeSlot (some k) w r s).2.slots[i]).deadline = s.tick + BitVec.ofNat 32 s.answerTimeout := by
  have hslots : (takeSlot (some k) w r s).2.slots
      = setAt s.slots i (allocatedSlot s.slots[i] k w r (s.tick + BitVec.ofNat 32 s.answerTimeout)) := by
    unfold takeSlot
    rw [hfree]
    cases w <;> rfl
  rw [hslots, setAt_get_same]
  rfl

theorem exec_getSetting_tick {s : State} {p : Packet} (h : s.Asks p [0x02, 0x08]) :
    exec .getSetting s = .next (s.replied p .ok (0x08 :: leBytes 4 s.tick.toNat)) := by
  have htaken : exec .getSetting s = .next (mgmtGetSetting p (takeFromC s)) := takeMreq_of_asks h rfl _
  rw [htaken, mgmtGetSetting, withLength_right (by rw [h.payload]; rfl), h.payload]
  rfl

/-- Settles O6: the effect of TICK on the timebase, the frame of a warm reset, and ages and deadlines as differences
and sums modulo 2^32. -/
theorem theTimebaseCountsTicksModulo2Pow32 : Obligations.TheTimebaseCountsTicksModulo2Pow32 := by
  refine ⟨fun straps s => ⟨_, rfl, rfl⟩, fun s h => ?_, fun s t h => tick_of_kept (exec_kept h rfl),
    fun s it _ _ => ?_, fun k w r s f rest hfree => ?_, fun s p h => exec_getSetting_tick h⟩
  · obtain ⟨t, hnext, htick⟩ := exec_tick_tick h
    exact ⟨t, hnext, by rw [htick, BitVec.toNat_add]; rfl⟩
  · rw [ParkItem.reachedLimit, decide_eq_true_iff, age_eq]
  · rw [takeSlot_deadline hfree, BitVec.toNat_add, BitVec.toNat_ofNat, Nat.add_mod_mod]

end Sys2Proof.Machine
end

section
/-! The commands as a whole: RST_N low, events whose conditions do not hold, the taking of a packet said once, and the
one standing item that TICK, SET_SETTING, SET_DOMAIN and SET_MODE change. -/

namespace Sys2Proof.Machine

/-! ## RST_N and idle events -/

/-- An event that leaves the state is a command that leaves it, RST_N high or low. -/
theorem whenRunning_self {s : State} {f : State → State} (h : f s = s) : whenRunning s f = .next s := by
  rw [whenRunning, h, ite_self]

/-- While RST_N is low no command acts but the two of RST_N (R157; log 4). -/
theorem exec_of_inReset {c : Instr} {s : State} (hlow : s.inReset = true) (hassert : c ≠ .rstNAsserted)
    (hrelease : ∀ straps, c ≠ .powerOnReset straps) : exec c s = .next s := by
  cases c with
  | powerOnReset straps => exact absurd rfl (hrelease straps)
  | rstNAsserted => exact absurd rfl hassert
  | _ => exact congrArg Host.Outcome.next (if_pos hlow)

/-- Settles O1: the two cases of the queue, and the two of the count of due triggers. -/
theorem stepTakesTheFrontCommandOrIdles : Obligations.StepTakesTheFrontCommandOrIdles := by
  refine ⟨fun c rest s h => ?_, fun s h hidle => ?_, fun s n h hhigh hdue => ?_⟩
  · simp only [step, h]
  · have hstep : step s = whenRunning s takeDueTrigger := by simp only [step, h]
    rw [hstep]
    rcases hidle with hlow | hnone
    · exact whenRunning_low hlow _
    · exact whenRunning_self (takeDueTrigger_of_none hnone)
  · have hstep : step s = whenRunning s takeDueTrigger := by simp only [step, h]
    rw [hstep, whenRunning_high hhigh, takeDueTrigger_of_due (by omega), hdue]
    rfl

/-- Settles O4: the power-on state is spelled out field by field, and `exec_of_inReset`. -/
theorem rstNGivesThePowerOnValuesAndHoldsTheBridge : Obligations.RstNGivesThePowerOnValuesAndHoldsTheBridge := by
  refine ⟨fun straps s => ?_, fun s => rfl, fun c s hlow hassert hrelease => exec_of_inReset hlow hassert hrelease⟩
  obtain ⟨msrc, smode, bid⟩ := straps
  cases smode <;> rfl

/-! ## The taking of a packet -/

theorem takeRequest_of_other_kind {pk : PacketKind} {k : ReqKind} {s : State}
    (h : ∀ p, s.packetToTake = some p → p.kind ≠ pk) : takeRequest pk k s = s := by
  unfold takeRequest
  split
  next p hp => rw [if_neg (h p hp)]
  next => rfl

/-- What the taking of a data request can do: nothing, or the admission path's run of the oldest packet. -/
theorem takeRequest_cases (pk : PacketKind) (k : ReqKind) (s : State) :
    takeRequest pk k s = s ∨ ∃ p, s.packetToTake = some p ∧ p.kind = pk ∧
      takeRequest pk k s = runFresh (requestOf k p) (takeFromC s) := by
  unfold takeRequest
  split
  next p hp =>
    split
    next hkind => exact .inr ⟨p, hp, hkind, rfl⟩
    next => exact .inl rfl
  next => exact .inl rfl

theorem takeMreq_of_other_row {row : MgmtRow} {s : State} (body : Packet → State → State)
    (h : ∀ p, s.packetToTake = some p → p.kind = .mreq → mreqRow p.payload ≠ row) : takeMreq row body s = s := by
  unfold takeMreq
  split
  next p hp => rw [if_neg fun hrow => h p hp hrow.1 hrow.2]
  next => rfl

/-- What the taking of an MREQ can do: nothing, the row's body for a permitted source, or the refusal of another. -/
theorem takeMreq_cases (row : MgmtRow) (body : Packet → State → State) (s : State) :
    takeMreq row body s = s ∨ ∃ p, s.packetToTake = some p ∧ p.kind = .mreq ∧ mreqRow p.payload = row ∧
      (permitted s p.source = true ∧ takeMreq row body s = body p (takeFromC s) ∨
        takeMreq row body s = recordFault (mgmtDeniedFault p.source) (reply p .denied [] (takeFromC s))) := by
  unfold takeMreq
  split
  next p hp =>
    split
    next hrow =>
      refine .inr ⟨p, hp, hrow.1, hrow.2, ?_⟩
      dsimp only
      split
      next hpermitted => exact .inl ⟨hpermitted, rfl⟩
      next => exact .inr rfl
    next => exact .inl rfl
  next => exact .inl rfl

/-- A packet is taken only under the admission unit's grant. -/
theorem granted_of_packetToTake {s : State} {p : Packet} (h : s.packetToTake = some p) :
    s.granted = some .admission := by
  unfold State.packetToTake at h
  split at h
  next hgranted => exact hgranted
  next => cases h

/-- Settles O3: each event by the condition its first test asks for. -/
theorem anEventWithoutItsConditionsChangesNothing : Obligations.AnEventWithoutItsConditionsChangesNothing := by
  refine ⟨fun k s h => ?_, fun row s h => ?_, fun s h => ⟨?_, ?_, ?_⟩, fun s h => ⟨?_, ?_, ?_⟩, fun s h => ?_,
    fun s h => ?_⟩
  · cases k <;> exact whenRunning_self (takeRequest_of_other_kind h)
  · cases row <;> exact whenRunning_self (takeMreq_of_other_row _ h)
  · exact whenRunning_self (if_neg h)
  · exact whenRunning_self (if_neg fun hboth => h hboth.1)
  · exact whenRunning_self (if_neg h)
  · exact whenRunning_self (if_neg h)
  · exact whenRunning_self (if_neg h)
  · exact whenRunning_self (if_neg h)
  · exact whenRunning_self (if_neg h)
  · exact whenRunning_self (if_neg h)

/-! ## The commands with a standing item of their own -/

theorem mgmtSetDomain_cases (p : Packet) (s : State) :
    (∃ st, mgmtSetDomain p s = reply p st [] s) ∨ ∃ i r l, p.payload.length = 7 ∧
      indexOf 64 (byteAt p.payload 1) = some i ∧ domainRecordOf p.payload = some r ∧
      mgmtSetDomain p s = reply p .ok l (s.setDomains (setAt s.domains i r)) := by
  unfold mgmtSetDomain withLength
  split
  next hlength =>
    split
    next i r hi hr => exact .inr ⟨i, r, _, hlength, hi, hr, rfl⟩
    next => exact .inl ⟨_, rfl⟩
  next => exact .inl ⟨_, rfl⟩

/-- SET_DOMAIN leaves the standing items but the domain table. -/
theorem mgmtSetDomain_kept (p : Packet) (s : State) :
    ∃ x, (mgmtSetDomain p s).kept = (s.setDomains x).kept := by
  rcases mgmtSetDomain_cases p s with ⟨st, h⟩ | ⟨i, r, l, -, -, -, h⟩
  · exact ⟨s.domains, by rw [h, reply_kept]; rfl⟩
  · exact ⟨_, by rw [h, reply_kept]⟩

/-- SET_MODE leaves the standing items but the mode. -/
theorem mgmtSetMode_kept (p : Packet) (s : State) : ∃ m, (mgmtSetMode p s).kept = (s.setModeField m).kept := by
  have hreply : ∀ st l, (reply p st l s).kept = (s.setModeField s.mode).kept := fun st l => reply_kept _ _ _ _
  unfold mgmtSetMode withLength
  split
  · split
    · exact ⟨_, hreply _ _⟩
    next m _ =>
      dsimp only
      split
      · exact ⟨_, hreply _ _⟩
      · split
        · exact ⟨_, hreply _ _⟩
        · refine ⟨m, ?_⟩
          unfold changeMode
          dsimp only
          split
          · rw [setLongOp_kept, setSlots_kept, abortPark_kept]
          · split
            · rw [listReply_kept, setSlots_kept, abortPark_kept]
            · rw [reply_kept, setSlots_kept, abortPark_kept]
  · exact ⟨_, hreply _ _⟩

/-- What a written setting can be: the park limit with its marks, the timeout, or the alert's mask or destination. -/
theorem writeSetting_cases {s t : State} {item v : Nat} (h : writeSetting s item v = some t) :
    (v ≤ 65535 ∧ t = markExpired (s.setParkLimit v)) ∨ (v ≤ 65535 ∧ t = s.setAnswerTimeout v) ∨
      (∃ m, t = s.setAlert (s.alert.writeMask m s.cUp)) ∨
      t = s.setAlert { s.alert with dest := BitVec.ofNat 6 v } := by
  unfold writeSetting at h
  split at h
  · split at h <;> cases h
    next hv => exact .inl ⟨hv.2, rfl⟩
  · split at h <;> cases h
    next hv => exact .inr (.inl ⟨hv.2, rfl⟩)
  · obtain ⟨m, -, rfl⟩ := Option.map_eq_some_iff.mp h
    exact .inr (.inr (.inl ⟨m, rfl⟩))
  · split at h <;> cases h
    exact .inr (.inr (.inr rfl))
  · cases h

/-- What SET_SETTING can do: a reply alone, or a written setting and then its reply. -/
theorem mgmtSetSetting_cases (p : Packet) (s : State) :
    (∃ st, mgmtSetSetting p s = reply p st [] s) ∨
      ∃ item v t l, writeSetting s item v = some t ∧ mgmtSetSetting p s = reply p .ok l t := by
  unfold mgmtSetSetting withLength
  dsimp only
  split
  · exact .inl ⟨_, rfl⟩
  · split
    · exact .inl ⟨_, rfl⟩
    · split
      · split
        next t hwritten => exact .inr ⟨_, _, t, _, hwritten, rfl⟩
        next => exact .inl ⟨_, rfl⟩
      · exact .inl ⟨_, rfl⟩

/-- SET_SETTING leaves the standing items but the two limits and the alert's settings. -/
theorem mgmtSetSetting_kept (p : Packet) (s : State) : ∃ limit timeout a,
    (mgmtSetSetting p s).kept = (((s.setParkLimit limit).setAnswerTimeout timeout).setAlert a).kept := by
  rcases mgmtSetSetting_cases p s with ⟨st, h⟩ | ⟨item, v, t, l, hwritten, h⟩
  · exact ⟨s.parkLimit, s.answerTimeout, s.alert, by rw [h, reply_kept]; rfl⟩
  · simp only [h, reply_kept]
    rcases writeSetting_cases hwritten with ⟨-, rfl⟩ | ⟨-, rfl⟩ | ⟨m, rfl⟩ | rfl
    · exact ⟨v, s.answerTimeout, s.alert, rfl⟩
    · exact ⟨s.parkLimit, v, s.alert, rfl⟩
    · exact ⟨s.parkLimit, s.answerTimeout, _, rfl⟩
    · exact ⟨s.parkLimit, s.answerTimeout, _, rfl⟩

/-- The effect of a row's command on the standing items is that of its body, where the body ran. -/
theorem rowEvent_cases {row : MgmtRow} {body : Packet → State → State} {s t : State}
    (h : whenRunning s (takeMreq row body) = .next t) :
    t.kept = s.kept ∨ ∃ p, t = body p (takeFromC s) := by
  unfold whenRunning at h
  injection h with h
  subst h
  split
  · exact .inl rfl
  · rcases takeMreq_cases row body s with hsame | ⟨p, -, -, -, ⟨-, hbody⟩ | hdenied⟩
    · rw [hsame]; exact .inl rfl
    · exact .inr ⟨p, hbody⟩
    · rw [hdenied, recordFault_kept, reply_kept]; exact .inl rfl

theorem exec_setDomain_kept {s t : State} (h : exec .setDomain s = .next t) :
    ∃ x, t.kept = (s.setDomains x).kept := by
  rcases rowEvent_cases (show whenRunning s _ = _ from h) with hsame | ⟨p, rfl⟩
  · exact ⟨s.domains, hsame⟩
  · exact mgmtSetDomain_kept p (takeFromC s)

theorem exec_setMode_kept {s t : State} (h : exec .setMode s = .next t) :
    ∃ m, t.kept = (s.setModeField m).kept := by
  rcases rowEvent_cases (show whenRunning s _ = _ from h) with hsame | ⟨p, rfl⟩
  · exact ⟨s.mode, hsame⟩
  · exact mgmtSetMode_kept p (takeFromC s)

theorem exec_setSetting_kept {s t : State} (h : exec .setSetting s = .next t) : ∃ limit timeout a,
    t.kept = (((s.setParkLimit limit).setAnswerTimeout timeout).setAlert a).kept := by
  rcases rowEvent_cases (show whenRunning s _ = _ from h) with hsame | ⟨p, rfl⟩
  · exact ⟨s.parkLimit, s.answerTimeout, s.alert, hsame⟩
  · exact mgmtSetSetting_kept p (takeFromC s)

theorem exec_tick_kept {s t : State} (h : exec .tick s = .next t) : ∃ now, t.kept = (s.setTick now).kept := by
  rw [exec_tick, whenRunning] at h
  injection h with h
  subst h
  split
  · exact ⟨s.tick, rfl⟩
  · refine ⟨s.tick + 1, ?_⟩
    have hsettled := settleDue_kept s
    have hadvance : ∀ u v : State, u.kept = v.kept → (u.setTick (u.tick + 1)).kept = (v.setTick (v.tick + 1)).kept := by
      intro u v huv
      simp only [State.kept, State.standing, State.alertSettings, Prod.mk.injEq, Standing.mk.injEq,
        State.setTick_pending, State.setTick_inReset, State.setTick_straps, State.setTick_tick, State.setTick_mode,
        State.setTick_domains, State.setTick_parkLimit, State.setTick_answerTimeout, State.setTick_slotTriggerWaits,
        State.setTick_alert] at huv ⊢
      obtain ⟨⟨_, _, _, htick, _⟩, _⟩ := huv
      simp_all
    exact (advanceTime_kept _).trans (hadvance _ _ hsettled)

/-- Every command completes (log 2). -/
theorem exec_next (c : Instr) (s : State) : ∃ t, exec c s = .next t := by
  cases c <;> exact ⟨_, rfl⟩

/-- The parts of the kept items, named. -/
theorem kept_iff {u v : State} : u.kept = v.kept ↔
    (u.pending = v.pending ∧ u.inReset = v.inReset ∧ u.straps = v.straps ∧ u.tick = v.tick ∧ u.mode = v.mode ∧
      u.domains = v.domains ∧ u.parkLimit = v.parkLimit ∧ u.answerTimeout = v.answerTimeout ∧
      u.slotTriggerWaits = v.slotTriggerWaits) ∧ u.alert.mask = v.alert.mask ∧ u.alert.dest = v.alert.dest := by
  simp only [State.kept, State.standing, State.alertSettings, Prod.mk.injEq, Standing.mk.injEq]

/-- Settles O2: the frame `exec_kept`, and for the four commands with a standing item of their own the lemma that says
which. -/
theorem everyCommandCompletesAndChangesOnlyItsOwnStandingItems :
    Obligations.EveryCommandCompletesAndChangesOnlyItsOwnStandingItems := by
  refine ⟨fun c s => ?_, fun c s t h hassert hrelease => ?_⟩
  · obtain ⟨t, h⟩ := exec_next c s
    refine ⟨t, h, ?_⟩
    cases c with
    | powerOnReset | rstNAsserted => cases h; exact ⟨rfl, rfl⟩
    | tick => obtain ⟨now, hk⟩ := exec_tick_kept h; have := kept_iff.mp hk; simp_all
    | setSetting => obtain ⟨_, _, _, hk⟩ := exec_setSetting_kept h; have := kept_iff.mp hk; simp_all
    | setDomain => obtain ⟨_, hk⟩ := exec_setDomain_kept h; have := kept_iff.mp hk; simp_all
    | setMode => obtain ⟨_, hk⟩ := exec_setMode_kept h; have := kept_iff.mp hk; simp_all
    | _ => have := kept_iff.mp (exec_kept h rfl); simp_all
  · cases c with
    | powerOnReset straps => exact absurd rfl (hrelease straps)
    | rstNAsserted => exact absurd rfl hassert
    | tick => obtain ⟨now, hk⟩ := exec_tick_kept h; have := kept_iff.mp hk; simp_all
    | setSetting => obtain ⟨_, _, _, hk⟩ := exec_setSetting_kept h; have := kept_iff.mp hk; simp_all
    | setDomain => obtain ⟨_, hk⟩ := exec_setDomain_kept h; have := kept_iff.mp hk; simp_all
    | setMode => obtain ⟨_, hk⟩ := exec_setMode_kept h; have := kept_iff.mp hk; simp_all
    | _ => have := kept_iff.mp (exec_kept h rfl); simp_all

end Sys2Proof.Machine
end

section
/-! The domain table (R28) and the power-on state's laws. -/

namespace Sys2Proof.Machine

/-! ## SET_DOMAIN's operands -/

theorem indexOf_some {n v : Nat} {i : Fin n} (h : indexOf n v = some i) : v = i.val := by
  unfold indexOf at h
  split at h
  · cases h; rfl
  · cases h

theorem flagOfCode_some {v : Nat} {b : Bool} (h : flagOfCode v = some b) : v = (flagByte b).toNat := by
  unfold flagOfCode at h
  split at h <;> cases h <;> rfl

theorem classOfCode_some {v : Nat} {c : SourceClass} (h : classOfCode v = some c) : v = c.code := by
  unfold classOfCode at h
  split at h <;> cases h <;> rfl

theorem policyOfCode_some {v : Nat} {c : MissPolicy} (h : policyOfCode v = some c) : v = c.code := by
  unfold policyOfCode at h
  split at h <;> cases h <;> rfl

/-- The row of SET_DOMAIN is that of request code 05h alone (R156). -/
theorem head_of_mreqRow_setDomain {l : List Byte} (h : mreqRow l = .setDomain) : ∃ more, l = 0x05 :: more := by
  unfold mreqRow at h
  cases l with
  | nil => cases h
  | cons c more =>
    refine ⟨more, ?_⟩
    simp only [List.head?_cons] at h
    repeat' split at h
    all_goals cases h
    next hc => exact congrArg (· :: more) (BitVec.eq_of_toNat_eq hc)

/-- A byte read at a place of a list, by the number it spells. -/
theorem eq_ofNat_of_byteAt {l : List Byte} {i v : Nat} {b : Byte} (hb : l[i]? = some b) (h : byteAt l i = v) :
    b = BitVec.ofNat 8 v := by
  rw [← h, byteAt, List.getD, hb]
  simp

/-- The operands that SET_DOMAIN accepts are an index and the five bytes of the record (R156). -/
theorem payload_of_setDomain {l : List Byte} {i : Fin 64} {r : DomainRecord} (hrow : mreqRow l = .setDomain)
    (hlength : l.length = 7) (hi : indexOf 64 (byteAt l 1) = some i) (hr : domainRecordOf l = some r) :
    l = 0x05 :: BitVec.ofNat 8 i.val :: r.bytes := by
  obtain ⟨more, rfl⟩ := head_of_mreqRow_setDomain hrow
  unfold domainRecordOf at hr
  split at hr
  next valid d c policy manage hvalid hd hc hpolicy hmanage =>
    cases hr
    match more, hlength with
    | [b1, b2, b3, b4, b5, b6], _ =>
      have e1 := eq_ofNat_of_byteAt rfl (indexOf_some hi)
      have e2 := eq_ofNat_of_byteAt rfl (flagOfCode_some hvalid)
      have e3 := eq_ofNat_of_byteAt rfl (indexOf_some hd)
      have e4 := eq_ofNat_of_byteAt rfl (classOfCode_some hc)
      have e5 := eq_ofNat_of_byteAt rfl (policyOfCode_some hpolicy)
      have e6 := eq_ofNat_of_byteAt rfl (flagOfCode_some hmanage)
      subst e1 e2 e3 e4 e5 e6
      simp [DomainRecord.bytes, leBytes]
  next => cases hr

theorem domains_of_kept {u v : State} (h : u.kept = v.kept) : u.domains = v.domains :=
  congrArg (fun k => k.1.domains) h

/-- A domain table that differs is one that an accepted SET_DOMAIN wrote (R34). -/
theorem exec_setDomain_domains {s t : State} (h : exec .setDomain s = .next t) :
    t.domains = s.domains ∨ ∃ (p : Packet) (i : Fin 64) (r : DomainRecord),
      s.Asks p (0x05 :: BitVec.ofNat 8 i.val :: r.bytes) ∧ t.domains = setAt s.domains i r := by
  have hrun : whenRunning s (takeMreq .setDomain mgmtSetDomain) = .next t := h
  unfold whenRunning at hrun
  injection hrun with hrun
  subst hrun
  split
  · exact .inl rfl
  next hhigh =>
    rcases takeMreq_cases .setDomain mgmtSetDomain s with hsame | ⟨p, htaken, hkind, hrow, ⟨hpermitted, hbody⟩ | hdenied⟩
    · rw [hsame]; exact .inl rfl
    · rw [hbody]
      rcases mgmtSetDomain_cases p (takeFromC s) with ⟨st, hreply⟩ | ⟨i, r, l, hlength, hi, hr, hset⟩
      · rw [hreply]
        exact .inl (domains_of_kept (reply_kept _ _ _ _))
      · refine .inr ⟨p, i, r, ⟨⟨by simpa using hhigh, htaken⟩, hkind, hpermitted,
          payload_of_setDomain hrow hlength hi hr⟩, ?_⟩
        rw [hset]
        exact domains_of_kept (reply_kept _ _ _ _)
    · rw [hdenied]
      exact .inl (domains_of_kept (by rw [recordFault_kept, reply_kept, takeFromC_kept]))

/-- No command but SET_DOMAIN and those of RST_N changes the domain table (R28). -/
theorem exec_domains {c : Instr} {s t : State} (h : exec c s = .next t) (hset : c ≠ .setDomain)
    (hassert : c ≠ .rstNAsserted) (hrelease : ∀ straps, c ≠ .powerOnReset straps) : t.domains = s.domains := by
  cases c with
  | powerOnReset straps => exact absurd rfl (hrelease straps)
  | rstNAsserted => exact absurd rfl hassert
  | setDomain => exact absurd rfl hset
  | tick => obtain ⟨_, hk⟩ := exec_tick_kept h; exact (domains_of_kept hk).trans rfl
  | setSetting => obtain ⟨_, _, _, hk⟩ := exec_setSetting_kept h; exact (domains_of_kept hk).trans rfl
  | setMode => obtain ⟨_, hk⟩ := exec_setMode_kept h; exact (domains_of_kept hk).trans rfl
  | _ => exact domains_of_kept (exec_kept h rfl)

/-- Settles O5: the power-on table record by record, the frame `exec_domains`, and `exec_setDomain_domains`. -/
theorem theDomainTableChangesBySetDomainAlone : Obligations.TheDomainTableChangesBySetDomainAlone := by
  refine ⟨fun straps s => ⟨_, rfl, fun i => replicate_get _ i, fun src => ?_, ?_, fun r behind => ?_⟩,
    fun c s t h hset hassert hrelease => exec_domains h hset hassert hrelease, fun s t h => exec_setDomain_domains h⟩
  · have hinvalid : ∀ i : Fin 64, ((State.powerOn straps).domains[i]).valid = false := fun i =>
      congrArg DomainRecord.valid (replicate_get DomainRecord.powerOn i)
    simp only [permitted, hinvalid, Bool.false_and, Bool.or_false, beq_iff_eq]
    rfl
  · obtain ⟨msrc, smode, bid⟩ := straps
    cases smode
    · exact .inl rfl
    · exact .inr rfl
  · have hinvalid : ((State.powerOn straps).domains[sourceIndex r.source]).valid = false :=
      congrArg DomainRecord.valid (replicate_get DomainRecord.powerOn _)
    simp only [judge, judgeGuard, hinvalid]
    rfl

/-! ## The laws at power-on -/

section
variable (straps : Straps)

theorem powerOn_window (j : Fin 64) : (State.powerOn straps).windows[j] = WindowEntry.powerOn := replicate_get _ j

theorem powerOn_slot (i : Fin 32) : (State.powerOn straps).slots[i] = Slot.powerOn := replicate_get _ i

theorem powerOn_tableLaw : (State.powerOn straps).TableLaw where
  slots :=
    { nodup := List.nodup_finRange 32
      free_iff := fun i => by rw [powerOn_slot]; simp [State.powerOn, Slot.powerOn]
      overdue := fun i h => by rw [powerOn_slot] at h; cases h
      marked := fun i h => by rw [powerOn_slot] at h; cases h }
  flight :=
    { count := fun j => by
        rw [powerOn_window, countTable_eq, eq_comm]
        refine List.countP_eq_zero.mpr fun i _ => ?_
        rw [powerOn_slot]
        exact Bool.false_ne_true
      free := fun j _ => by rw [powerOn_window]; rfl
      draining := fun j h => by rw [powerOn_window] at h; cases h }
  long :=
    { retire := ((anyTable_eq_false _ _).mpr fun j => by rw [powerOn_window]; rfl).symm
      setMode := ((anyTable_eq_false _ _).mpr fun i => by rw [powerOn_slot]; rfl).symm }

theorem powerOn_disjointLaw : (State.powerOn straps).DisjointLaw := by
  intro i j d a hi _
  rw [powerOn_window] at hi
  cases hi

theorem powerOn_rangeLaw : (State.powerOn straps).RangeLaw := by
  intro i h
  rw [powerOn_window] at h
  exact absurd rfl h

theorem powerOn_port_law : PortState.powerOn.Law where
  negotiated_up := fun h => by cases h
  outside_up := fun _ => ⟨rfl, rfl, rfl, rfl⟩
  agreed_in := fun h => by cases h
  agreed_valid := fun _ h => by cases h
  credits := Nat.zero_le _
  owed := Nat.zero_le _
  rx := Nat.zero_le _
  tx := Nat.zero_le _

theorem powerOn_portsLaw : (State.powerOn straps).PortsLaw :=
  ⟨powerOn_port_law, powerOn_port_law, fun _ => ⟨rfl, rfl, rfl⟩⟩

theorem powerOn_metersLaw : (State.powerOn straps).MetersLaw := by
  intro m
  have hm : (State.powerOn straps).meters[m] = Meter.powerOn := replicate_get _ m
  rw [hm]
  exact ⟨by decide, by decide, fun _ h => (by cases h), by decide, by decide, fun h => (by cases h)⟩

theorem powerOn_logLaw : (State.powerOn straps).LogLaw := by
  have hrecord : ∀ i : Fin 16, (State.powerOn straps).log.records[i] = FaultRecord.powerOn := replicate_get _
  refine ⟨fun i j h => ?_, fun i => ?_⟩
  · rw [hrecord] at h; cases h
  · rw [hrecord]; exact Nat.zero_le _

theorem powerOn_alertLaw : (State.powerOn straps).AlertLaw :=
  ⟨fun h => (by cases h), fun h => (by cases h)⟩

theorem powerOn_parkLaw : (State.powerOn straps).ParkLaw :=
  ⟨Nat.zero_le _, List.Pairwise.nil, rfl, rfl, fun _ => rfl⟩
end

/-- Settles O60: each law of the power-on state, record by record. -/
theorem theLawsHoldAfterPowerOn : Obligations.TheLawsHoldAfterPowerOn :=
  ⟨fun straps => ⟨powerOn_tableLaw straps, powerOn_disjointLaw straps, powerOn_rangeLaw straps, powerOn_portsLaw straps,
    powerOn_metersLaw straps, powerOn_logLaw straps, powerOn_alertLaw straps, powerOn_parkLaw straps⟩, rfl⟩

end Sys2Proof.Machine
end

section
/-! The events of time and of the link ports: METER_ROLLOVER, EXPIRY_DUE, SLOT_OVERDUE, word alignment, training,
credits, sending and receiving (R82, R97, R115, R158 to R162). -/

namespace Sys2Proof.Machine

/-! ## Time -/

/-- A fresh period's settings: the next values where they are present (R115). -/
theorem freshPeriod_eq (x : Meter) : x.freshPeriod =
    { x with
      periodCount := 0, used := 0, rolloverDue := false, next := none
      period := match x.next with
        | some n => n.period
        | none => x.period
      budget := match x.next with
        | some n => n.budget
        | none => x.budget } := by
  unfold Meter.freshPeriod
  cases x.next <;> rfl

/-- Settles O8: the rollover of a RUNNING meter that is due, with `freshPeriod_eq`. -/
theorem aRolloverStartsAFreshPeriodAndGivesTheTrigger : Obligations.ARolloverStartsAFreshPeriodAndGivesTheTrigger := by
  intro s m hhigh hrunning hdue
  have hexec : exec (.meterRollover m) s = .next (rollOverIfDue m s) := whenRunning_high hhigh _
  rw [hexec, rollOverIfDue, if_pos ⟨hrunning, hdue⟩, rollOver, freshPeriod_eq]
  rfl

/-- Settles O9: the mark of one item, by its state. -/
theorem expiryDueMarksTheItemsThatReachedTheLimit : Obligations.ExpiryDueMarksTheItemsThatReachedTheLimit := by
  intro s hhigh
  have hexec : exec .expiryDue s = .next (markExpired s) := whenRunning_high hhigh _
  rw [hexec, markExpired]
  refine congrArg (fun items => Host.Outcome.next (s.setPark items)) (List.map_congr_left fun it _ => ?_)
  cases hstate : it.state with
  | parked r =>
    by_cases hreached : s.parkLimit ≤ (s.tick - it.arrival).toNat <;>
      simp only [ParkItem.isParked, ParkItem.waitsFor, ParkItem.reachedLimit, age, hstate, hreached, Bool.true_and,
        decide_true, decide_false, if_true, if_false, Bool.false_eq_true]
  | leaving st f => simp [ParkItem.isParked, ParkItem.waitsFor, hstate]

theorem Slot.reachesDeadline_iff (x : Slot) (now : Tick) :
    x.reachesDeadline now = true ↔ x.state = .waiting ∧ x.overdue = false ∧ x.deadline = now := by
  simp [Slot.reachesDeadline, and_assoc]

/-- Settles O10: a slot that reaches its deadline is marked, and a CONFIRM slot is freed with its fault and no answer. -/
theorem slotOverdueMarksOrFreesAtTheDeadline : Obligations.SlotOverdueMarksOrFreesAtTheDeadline := by
  intro s i hhigh hwaiting hmark hdeadline
  have hexec : exec (.slotOverdue i) s = .next (slotBecomesOverdue i s) := whenRunning_high hhigh _
  have hreaches : (s.slots[i]).reachesDeadline s.tick = true :=
    (Slot.reachesDeadline_iff _ _).mpr ⟨hwaiting, hmark, hdeadline⟩
  rw [hexec, slotBecomesOverdue, if_pos hreaches]
  refine ⟨fun hkind => ?_, fun hkind => ?_⟩
  · rw [if_neg hkind]
    rfl
  · have hslot : (s.setSlot i { s.slots[i] with overdue := true }).slots[i] = { s.slots[i] with overdue := true } :=
      setAt_get_same _ _ _
    rw [if_pos hkind, expireSlot, hslot]
    simp only [slotFault, Slot.locus, SlotKind.reqKind, answerSlot, hkind]
    rfl

/-! ## Word alignment -/

theorem setPort_port (s : State) (q : Port) : s.setPort q (s.port q) = s := by
  cases q <;> rfl

/-- Settles O11: each alignment command by its own test. -/
theorem wordAlignmentGainedAndLost : Obligations.WordAlignmentGainedAndLost := by
  refine ⟨fun q s hhigh => ?_, fun q s hhigh => ?_⟩
  · have hacquired : exec (.wordAlignmentAcquired q) s = .next
        (if (s.port q).training = .down then s.setPort q ((s.port q).enter .train) else s) := whenRunning_high hhigh _
    have hlost : exec (.alignmentLost q) s = .next
        (if (s.port q).training ≠ .down ∧ (s.port q).lossTicks = none then
          s.setPort q { s.port q with lossTicks := some 0 } else s) := whenRunning_high hhigh _
    have hregained : exec (.alignmentRegained q) s = .next
        (if (s.port q).lossTicks.isSome && (s.port q).lossTicks != some lossLimit then
          s.setPort q { s.port q with lossTicks := none } else s) := whenRunning_high hhigh _
    refine ⟨fun h => ?_, fun h => ?_, fun h hnone => ?_, fun n h hn => ?_, fun h => ?_, fun h => ?_, fun h => ?_⟩
    · rw [hacquired, if_pos h]
      rfl
    · rw [hacquired, if_neg h]
    · rw [hlost, if_pos ⟨h, hnone⟩]
    · rw [hregained, if_pos (by rw [h]; simp [lossLimit]; omega)]
    · rw [hregained, if_neg (by rw [h]; decide)]
    · rw [hregained, if_neg (by rw [h]; decide)]
    · rw [hlost, if_neg fun hboth => h.elim hboth.1 fun hloss => hloss hboth.2]
  · have hexpiry : exec (.alignmentLossExpiry q) s = .next (expireLoss q s) := whenRunning_high hhigh _
    rw [hexpiry, expireLoss, lossLimit]
    refine ⟨fun h => ?_, fun h hup => ?_, fun h hup => ?_⟩
    · rw [if_neg h]
    · rw [if_pos h, if_neg (by simpa [PortState.isUp] using hup)]
      rfl
    · rw [if_pos h, if_pos (by simpa [PortState.isUp] using hup)]

/-! ## Training -/

/-- A valid offer, said from R158. -/
theorem offerValid_iff (o : LinkOffer) : offerValid o = true ↔ (o.role = .upper ∨ o.role = .lower)
    ∧ (o.payloadCode = 64 ∨ o.payloadCode = 128 ∨ o.payloadCode = 256) ∧ 1 ≤ o.buffers ∧ o.buffers ≤ 16 := by
  obtain ⟨role, code, buffers⟩ := o
  cases role <;> simp [offerValid, or_assoc, and_assoc]

theorem exec_trainWord {s : State} (h : s.inReset = false) (q : Port) (w : TrainWord) :
    exec (.trainWord q w) s = .next (receiveTrainWord q w s) := whenRunning_high h _

/-- Settles O12: the branches of `PortState.trainInTrain`. -/
theorem threeIdenticalTrainWordsDecideTheTraining : Obligations.ThreeIdenticalTrainWordsDecideTheTraining := by
  intro q w s hhigh htrain x valid own
  have hexec : exec (.trainWord q w) s = .next (s.setPort q (x.trainInTrain q w)) := by
    rw [exec_trainWord hhigh, receiveTrainWord, htrain]
  have hown : ownRole q = own := by cases q <;> rfl
  have hvalid : offerValid w.offer = true ↔ valid := offerValid_iff w.offer
  rw [hexec, PortState.trainInTrain, hown]
  refine ⟨fun h => ?_, fun h hlast => ?_, fun h hlast hcount => ?_, fun h hlast hcount hrole => ?_,
    fun h hlast hcount hrole => ?_⟩
  · rw [if_pos (by simpa using hvalid.not.mpr h)]
    rfl
  · rw [if_neg (by simpa using hvalid.mpr h), if_neg hlast]
  · rw [if_neg (by simpa using hvalid.mpr h), if_pos hlast, if_pos hcount]
  · rw [if_neg (by simpa using hvalid.mpr h), if_pos hlast, if_neg (by omega), if_pos hrole]
    rfl
  · rw [if_neg (by simpa using hvalid.mpr h), if_pos hlast, if_neg (by omega), if_neg hrole]
    rfl

/-- Settles O13: the branches of `receiveTrainWord` outside TRAIN, and `portReachesUp` at each port. -/
theorem agreedTrainWordsBringThePortUpAndOthersEndTheLink :
    Obligations.AgreedTrainWordsBringThePortUpAndOthersEndTheLink := by
  refine ⟨fun q w s hhigh => ?_, fun q w s hhigh hup => ⟨fun hmark hsame => ?_, fun hother => ?_⟩⟩
  · intro x
    have hagree : x.training = .agree → exec (.trainWord q w) s = .next
        (if x.agreed ≠ some w.offer then s.setPort q (x.enter .train)
         else if !w.agree then s.setPort q x.restart
         else if x.trainCount + 1 < 3 then s.setPort q { x with trainCount := x.trainCount + 1 }
         else portReachesUp q w.offer s) := by
      intro htraining
      rw [exec_trainWord hhigh, receiveTrainWord, htraining]
    refine ⟨fun h => ?_, fun h hother => ?_, fun h hsame hmark => ?_, fun h hsame hmark hcount => ?_,
      fun h hsame hmark hcount => ?_⟩
    · rw [exec_trainWord hhigh, receiveTrainWord]
      rcases h with h | h <;> rw [h]
    · rw [hagree h, if_pos hother]
      rfl
    · rw [hagree h, if_neg (not_not.mpr hsame), if_pos (by simp [hmark])]
      rfl
    · rw [hagree h, if_neg (not_not.mpr hsame), if_neg (by simp [hmark]), if_pos hcount]
    · intro up
      rw [hagree h, if_neg (not_not.mpr hsame), if_neg (by simp [hmark]), if_neg (by omega)]
      cases q with
      | c =>
        have halert : s.alert.release true = if s.alert.pending = true ∧ s.alert.mask = false then
            { s.alert with pending := false, due := true } else s.alert := by
          simp [AlertCtl.release]
        rw [← halert]
        rfl
      | m => rfl
  · rw [exec_trainWord hhigh, receiveTrainWord, hup]
    simp [hmark, hsame]
  · rw [exec_trainWord hhigh, receiveTrainWord, hup]
    refine congrArg Host.Outcome.next (if_neg ?_)
    simp only [Bool.and_eq_true, beq_iff_eq, not_and]
    intro hmark hsame
    rcases hother with hclear | hdiffers
    · rw [hmark] at hclear; cases hclear
    · exact hdiffers hsame

/-! ## Credits, sending and receiving -/

theorem isUp_iff (x : PortState) : x.isUp = true ↔ x.training = .up := by simp [PortState.isUp]

theorem isUp_of_up {x : PortState} (h : x.training = .up) : x.isUp = true := (isUp_iff x).mpr h

theorem isUp_of_not_up {x : PortState} (h : x.training ≠ .up) : x.isUp = false := by simp [PortState.isUp, h]

/-- What anything but a TRAIN word does to a port that trains (R158). -/
theorem interrupted_of_training {x : PortState} (h : x.training = .train ∨ x.training = .agree) :
    x.interrupted = { x with trainCount := 0, lastOffer := none } := by
  rcases h with h | h <;> simp [PortState.interrupted, PortState.restart, h]

/-- ... and it does nothing to a port that does not. -/
theorem interrupted_of_not_training {x : PortState} (htrain : x.training ≠ .train) (hagree : x.training ≠ .agree) :
    x.interrupted = x := by
  unfold PortState.interrupted
  split <;> simp_all

theorem up_ne_training {t : Training} (h : t = .train ∨ t = .agree ∨ t = .down ∨ t = .mismatch) : t ≠ .up := by
  rintro rfl
  simp at h

/-- Settles O16: the credits by the bounds of `PortState.addCredits`, and `PortState.interrupted` outside UP. -/
theorem creditAndIdleWordsActOnTheCreditsAndTheCount : Obligations.CreditAndIdleWordsActOnTheCreditsAndTheCount := by
  intro q n s hhigh x
  have hcredit : exec (.creditWord q n) s = .next (s.setPort q (if x.isUp then x.addCredits n else x.interrupted)) :=
    congrArg Host.Outcome.next (if_neg (by simp [hhigh]))
  have hidle : exec (.idleWord q) s = .next (s.setPort q x.interrupted) :=
    congrArg Host.Outcome.next (if_neg (by simp [hhigh]))
  have hsend : exec (.sendCredit q) s = .next (if x.isUp then s.setPort q x.returnCredits else s) :=
    congrArg Host.Outcome.next (if_neg (by simp [hhigh]))
  refine ⟨fun hup hn => ?_, fun o hup ho h1 h16 => ?_, fun h => ?_, fun h => ?_, fun hup => ?_, fun hup howed => ?_,
    fun h => ?_⟩
  · rw [hcredit, if_pos (isUp_of_up hup), PortState.addCredits, if_pos hn]
    rfl
  · rw [hcredit, if_pos (isUp_of_up hup), PortState.addCredits, if_neg (by omega), ho]
    simp only [Option.map_some, Option.getD_some, PortState.creditError, ho]
    by_cases hfits : x.credits + n ≤ o.buffers
    · rw [if_neg (by omega), if_pos hfits]
    · rw [if_pos (by omega), if_neg hfits]
  · have hdown : x.isUp = false := isUp_of_not_up (up_ne_training (h.imp_right .inl))
    rw [hcredit, hidle, hdown, interrupted_of_training h]
    exact ⟨rfl, rfl⟩
  · have hdown : x.isUp = false := isUp_of_not_up (up_ne_training (.inr (.inr h)))
    have hsame : x.interrupted = x :=
      interrupted_of_not_training (by rcases h with h | h <;> simp [h]) (by rcases h with h | h <;> simp [h])
    rw [hcredit, hidle, hdown, hsame]
    exact ⟨congrArg _ (setPort_port s q), congrArg _ (setPort_port s q)⟩
  · rw [hidle, interrupted_of_not_training (by simp [hup]) (by simp [hup]), setPort_port]
  · rw [hsend, if_pos (isUp_of_up hup), PortState.returnCredits, if_pos howed]
  · rw [hsend]
    rcases h with h | h
    · rw [if_neg (by simp [isUp_of_not_up h])]
    · rw [PortState.returnCredits, if_neg (show ¬0 < x.owed by omega), setPort_port, ite_self]

/-- The credits owed are returned in one CREDIT word, when there are some (R161). -/
theorem returnCredits_eq (x : PortState) : x.returnCredits =
    { x with owed := 0, sent := x.sent ++ if 0 < x.owed then [.credit x.owed] else [] } := by
  obtain ⟨_, _, _, _, _, _, owed, _, _, _, _, sent⟩ := x
  cases owed <;> simp [PortState.returnCredits]

/-- Settles O17: the test of SEND_PACKET and the head that is sent. -/
theorem sendingTakesTheHeadOfTheQueueForOneCredit : Obligations.SendingTakesTheHeadOfTheQueueForOneCredit := by
  intro q s hhigh x
  have hsend : exec (.sendPacket q) s = .next (if x.canSend then
      (match q with
       | .c => s.setCPort s.cPort.sendHead
       | .m => slotTrigger (s.setMPort s.mPort.sendHead)) else s) := by
    cases q <;> exact congrArg Host.Outcome.next (if_neg (by simp [hhigh]))
  refine ⟨fun pkt rest hup hcredits htx => ?_, fun h => ?_⟩
  · intro y
    have hhead : x.sendHead = y := by
      simp only [PortState.sendHead, htx, returnCredits_eq]
      rfl
    rw [hsend, if_pos (by simp [PortState.canSend, isUp_of_up hup, hcredits, htx])]
    cases q with
    | c => exact congrArg (fun z => Host.Outcome.next (s.setCPort z)) hhead
    | m => exact congrArg (fun z => Host.Outcome.next (slotTrigger (s.setMPort z))) hhead
  · rw [hsend, if_neg]
    simp only [PortState.canSend, Bool.and_eq_true, isUp_iff, decide_eq_true_eq, Bool.not_eq_true',
      List.isEmpty_eq_false_iff]
    rintro ⟨⟨hup, hcredits⟩, htx⟩
    rcases h with h | h | h
    · exact h hup
    · omega
    · exact htx h

/-- One more credit owed, with the CREDIT word that goes before a seventeenth (R161; log 28). -/
theorem oweCredit_eq (x : PortState) : x.oweCredit =
    { x with
      owed := if x.owed < 16 then x.owed + 1 else 1
      sent := if x.owed < 16 then x.sent else x.sent ++ [.credit x.owed] } := by
  unfold PortState.oweCredit capacity
  by_cases h : x.owed < 16
  · simp only [if_pos h]
  · simp only [if_neg h, PortState.returnCredits, if_pos (show 0 < x.owed by omega)]

/-- The model's check of order 2 is the rule's (R162). -/
theorem packetMalformed_iff (q : Port) (n : Nat) (pkt : Packet) :
    packetMalformed q n pkt = true ↔ MalformedAt pkt q n := by
  obtain ⟨kind, source, dest, tag, status, length, address, payload⟩ := pkt
  have hstatus : 1 < status.toNat ↔ status ≠ 0 ∧ status ≠ 1 := by
    constructor
    · intro h
      constructor <;> rintro rfl <;> simp at h
    · rintro ⟨h0, h1⟩
      have := mt (BitVec.eq_of_toNat_eq (y := (0 : Byte))) h0
      have := mt (BitVec.eq_of_toNat_eq (y := (1 : Byte))) h1
      simp at *
      omega
  cases kind <;> cases q <;>
    simp [packetMalformed, MalformedAt, kindIsRequest, hstatus, or_assoc]

/-- The model's checks of orders 3 and 4 are the rule's (R162). -/
theorem misplacedAt_iff (q : Port) (bid : SourceId) (pkt : Packet) :
    (kindMisplaced q pkt.kind || (pkt.kind == .mreq && pkt.dest != bid)) = true ↔ MisplacedAt pkt q bid := by
  cases q <;> simp [kindMisplaced, MisplacedAt, or_assoc]

/-- The receive checks in their order (R162). -/
theorem receiveCheck_eq (q : Port) (n : Nat) (bid : SourceId) (right : Bool) (pkt : Packet) :
    receiveCheck q n bid right pkt =
      if right = false then some .checkError
      else if packetMalformed q n pkt then some .malformed
      else if kindMisplaced q pkt.kind || (pkt.kind == .mreq && pkt.dest != bid) then some .misplaced
      else none := by
  unfold receiveCheck
  cases right <;> cases kindMisplaced q pkt.kind <;> simp

/-- Settles O18: the receive checks by `receiveCheck_eq`, each failure with `oweCredit_eq`. -/
theorem aReceivedPacketArrivesOrIsDiscardedWithItsIndication :
    Obligations.AReceivedPacketArrivesOrIsDiscardedWithItsIndication := by
  intro q right pkt n s hhigh x discarded
  have hexec : exec (.packetReceived q right pkt) s = .next (s.setPort q
      (if x.isUp then x.receive q s.straps.bid right pkt else x.interrupted)) :=
    congrArg Host.Outcome.next (if_neg (by simp [hhigh]))
  have hreceive : x.training = .up → x.negotiated = some n → x.rx.length < 16 →
      exec (.packetReceived q right pkt) s = .next (s.setPort q
        (match receiveCheck q n s.straps.bid right pkt with
         | none => { x with rx := x.rx ++ [pkt] }
         | some f => discarded (x.indications.latch f))) := by
    intro hup hn hroom
    have hpayload : x.negotiated.getD 0 = n := by rw [hn]; rfl
    rw [hexec, if_pos (isUp_of_up hup), PortState.receive, if_neg (by rw [capacity]; omega), hpayload]
    simp only [oweCredit_eq]
    rfl
  refine ⟨fun hup hfull => ?_, fun hup hn hroom hright => ?_, fun hup hn hroom hright hbad => ?_,
    fun hup hn hroom hright hgood hbad => ?_, fun hup hn hroom hright hgood hplaced => ?_, fun h => ?_, fun h => ?_⟩
  · rw [hexec, if_pos (isUp_of_up hup), PortState.receive, if_pos (by rw [capacity]; omega)]
    rfl
  · rw [hreceive hup hn hroom, receiveCheck_eq, if_pos hright]
    rfl
  · rw [hreceive hup hn hroom, receiveCheck_eq, if_neg (by simp [hright]),
      if_pos ((packetMalformed_iff q n pkt).mpr hbad)]
    rfl
  · rw [hreceive hup hn hroom, receiveCheck_eq, if_neg (by simp [hright]),
      if_neg ((packetMalformed_iff q n pkt).not.mpr hgood), if_pos ((misplacedAt_iff q s.straps.bid pkt).mpr hbad)]
    rfl
  · rw [hreceive hup hn hroom, receiveCheck_eq, if_neg (by simp [hright]),
      if_neg ((packetMalformed_iff q n pkt).not.mpr hgood),
      if_neg ((misplacedAt_iff q s.straps.bid pkt).not.mpr hplaced)]
  · rw [hexec, if_neg (by simp [isUp_of_not_up (up_ne_training (h.imp_right .inl))]), interrupted_of_training h]
  · have hsame : x.interrupted = x :=
      interrupted_of_not_training (by rcases h with h | h <;> simp [h]) (by rcases h with h | h <;> simp [h])
    rw [hexec, if_neg (by simp [isUp_of_not_up (up_ne_training (.inr (.inr h)))]), hsame, setPort_port]

end Sys2Proof.Machine
end

section
/-! The blocks behind the C-port: the arbiter's grants, the heads of the waiting lists, the freeing of a slot, the
recording of a fault, and the C-port's loss (R59, R80, R87, R97, R104, R128, R142, R147, R163, R165). -/

namespace Sys2Proof.Machine

/-! ## The overdue slot that the router takes -/

theorem Slot.claimsExpiry_iff (x : Slot) :
    x.claimsExpiry = true ↔ x.state = .waiting ∧ x.overdue = true ∧ x.kind ≠ .confirm := by
  simp [Slot.claimsExpiry, and_assoc]

/-- The candidate that became overdue first among some slots, the lower index on a tie (R97). -/
def FirstOverdueAmong (s : State) (l : List (Fin 32)) : Option (Fin 32) → Prop
  | none => ∀ j ∈ l, (s.slots[j]).claimsExpiry = false
  | some b => b ∈ l ∧ (s.slots[b]).claimsExpiry = true ∧ ∀ j ∈ l, (s.slots[j]).claimsExpiry = true → j ≠ b →
      (s.slots[j]).overdueFor < (s.slots[b]).overdueFor ∨
        ((s.slots[j]).overdueFor = (s.slots[b]).overdueFor ∧ b.val < j.val)

/-- One more candidate, of higher index than those before it, is compared with the best of them. -/
theorem firstOverdueAmong_snoc {s : State} {l : List (Fin 32)} {best : Option (Fin 32)} {i : Fin 32}
    (hbest : FirstOverdueAmong s l best) (hi : ∀ j ∈ l, j.val < i.val) :
    FirstOverdueAmong s (l ++ [i]) (earlierOverdue s best i) := by
  unfold earlierOverdue
  cases hclaims : (s.slots[i]).claimsExpiry with
  | false =>
    rw [if_neg Bool.false_ne_true]
    cases best with
    | none =>
      intro j hj
      rcases List.mem_append.mp hj with hj | hj
      · exact hbest j hj
      · rw [List.mem_singleton.mp hj, hclaims]
    | some b =>
      obtain ⟨hmem, hb, hrest⟩ := hbest
      refine ⟨List.mem_append_left _ hmem, hb, fun j hj hcj hne => ?_⟩
      rcases List.mem_append.mp hj with hj | hj
      · exact hrest j hj hcj hne
      · rw [List.mem_singleton.mp hj, hclaims] at hcj; cases hcj
  | true =>
    rw [if_pos rfl]
    cases best with
    | none =>
      refine ⟨List.mem_append_right _ (List.mem_singleton_self i), hclaims, fun j hj hcj hne => ?_⟩
      rcases List.mem_append.mp hj with hj | hj
      · rw [hbest j hj] at hcj; cases hcj
      · exact absurd (List.mem_singleton.mp hj) hne
    | some b =>
      obtain ⟨hmem, hb, hrest⟩ := hbest
      dsimp only
      split
      next hlater =>
        refine ⟨List.mem_append_right _ (List.mem_singleton_self i), hclaims, fun j hj hcj hne => ?_⟩
        rcases List.mem_append.mp hj with hj | hj
        · by_cases hjb : j = b
          · subst hjb; exact .inl hlater
          · rcases hrest j hj hcj hjb with h | h <;> exact .inl (by omega)
        · exact absurd (List.mem_singleton.mp hj) hne
      next hearlier =>
        refine ⟨List.mem_append_left _ hmem, hb, fun j hj hcj hne => ?_⟩
        rcases List.mem_append.mp hj with hj | hj
        · exact hrest j hj hcj hne
        · rw [List.mem_singleton.mp hj]
          have := hi b hmem
          omega

theorem firstOverdueAmong_foldl (s : State) (l : List (Fin 32)) (hsorted : l.Pairwise (· < ·)) :
    FirstOverdueAmong s l (l.foldl (earlierOverdue s) none) := by
  induction l using List.reverseRecOn with
  | nil => exact fun j hj => absurd hj List.not_mem_nil
  | append_singleton l i ih =>
    rw [List.foldl_append]
    obtain ⟨hl, -, hcross⟩ := List.pairwise_append.mp hsorted
    exact firstOverdueAmong_snoc (ih hl) fun j hj => hcross j hj i (List.mem_singleton_self i)

theorem firstOverdue_among (s : State) : FirstOverdueAmong s (List.finRange 32) (firstOverdue s) :=
  firstOverdueAmong_foldl s _ (List.pairwise_lt_finRange 32)

/-- The search finds the one slot that the rule names (R97). -/
theorem firstOverdue_eq_some_iff (s : State) (i : Fin 32) : firstOverdue s = some i ↔
    (s.slots[i]).claimsExpiry = true ∧ ∀ j : Fin 32, (s.slots[j]).claimsExpiry = true → j ≠ i →
      (s.slots[j]).overdueFor < (s.slots[i]).overdueFor ∨
        ((s.slots[j]).overdueFor = (s.slots[i]).overdueFor ∧ i.val < j.val) := by
  have hamong := firstOverdue_among s
  constructor
  · intro h
    rw [h] at hamong
    obtain ⟨-, hclaims, hrest⟩ := hamong
    exact ⟨hclaims, fun j => hrest j (List.mem_finRange j)⟩
  · rintro ⟨hclaims, hrest⟩
    cases hfound : firstOverdue s with
    | none =>
      rw [hfound] at hamong
      rw [hamong i (List.mem_finRange i)] at hclaims
      cases hclaims
    | some b =>
      rw [hfound] at hamong
      obtain ⟨-, hb, hbrest⟩ := hamong
      by_contra hne
      have hbi : b ≠ i := fun h => hne (congrArg some h)
      have h1 := hrest b hb hbi
      have h2 := hbrest i (List.mem_finRange i) hclaims (Ne.symm hbi)
      omega

theorem firstOverdue_isSome_iff (s : State) :
    (firstOverdue s).isSome = true ↔ ∃ i : Fin 32, (s.slots[i]).claimsExpiry = true := by
  have hamong := firstOverdue_among s
  cases hfound : firstOverdue s with
  | none =>
    rw [hfound] at hamong
    refine ⟨fun h => (by cases h), fun ⟨i, hi⟩ => ?_⟩
    rw [hamong i (List.mem_finRange i)] at hi
    cases hi
  | some b =>
    rw [hfound] at hamong
    exact ⟨fun _ => ⟨b, hamong.2.1⟩, fun _ => rfl⟩

/-! ## The arbiter -/

/-- In a list that holds everything in rising order of `f`, the search finds the least element that passes. -/
theorem find?_eq_some_iff_of_sorted {α : Type} {f : α → Nat} {l : List α} (hsorted : l.Pairwise fun a b => f a < f b)
    (hall : ∀ x, x ∈ l) (p : α → Bool) (q : α) :
    l.find? p = some q ↔ p q = true ∧ ∀ x, p x = true → f q ≤ f x := by
  have hleast : ∀ {q}, l.find? p = some q → p q = true ∧ ∀ x, p x = true → x = q ∨ f q < f x := by
    intro q h
    obtain ⟨hq, ahead, after, rfl, hahead⟩ := List.find?_eq_some_iff_append.mp h
    refine ⟨hq, fun x hx => ?_⟩
    rcases List.mem_append.mp (hall x) with hmem | hmem
    · exact absurd hx (by simpa using hahead x hmem)
    · rcases List.mem_cons.mp hmem with rfl | hmem
      · exact .inl rfl
      · exact .inr ((List.pairwise_cons.mp (List.pairwise_append.mp hsorted).2.1).1 x hmem)
  constructor
  · intro h
    obtain ⟨hq, hrest⟩ := hleast h
    exact ⟨hq, fun x hx => (hrest x hx).elim (fun e => e ▸ Nat.le_refl _) Nat.le_of_lt⟩
  · rintro ⟨hq, hrest⟩
    obtain ⟨q', hfound⟩ := Option.isSome_iff_exists.mp (List.find?_isSome.mpr ⟨q, hall q, hq⟩)
    obtain ⟨hq', hrest'⟩ := hleast hfound
    rcases hrest' q hq with rfl | hlt
    · exact hfound
    · exact absurd (hrest q' hq') (by omega)

theorem rotation_sorted (first : Producer) : first.rotation.Pairwise fun a b => a.wait first < b.wait first := by
  cases first <;> decide

theorem mem_rotation (first q : Producer) : q ∈ first.rotation := by
  cases first <;> cases q <;> decide

theorem cFree_iff (s : State) : s.cFree = true ↔ s.cPort.training ≠ .up ∨ s.cPort.tx.length < 16 := by
  rw [State.cFree, Bool.or_eq_true, decide_eq_true_iff, State.cUp, Bool.not_eq_true', ← Bool.not_eq_true, isUp_iff]
  rfl

theorem granted_eq_some_iff (s : State) (q : Producer) : s.granted = some q ↔
    s.cFree = true ∧ s.claim q = true ∧ ∀ q', s.claim q' = true → q.wait s.nextProducer ≤ q'.wait s.nextProducer := by
  unfold State.granted
  cases hfree : s.cFree with
  | false => simp
  | true =>
    simp only [if_true, true_and]
    exact find?_eq_some_iff_of_sorted (rotation_sorted s.nextProducer) (mem_rotation s.nextProducer) s.claim q

theorem claim_router_iff (s : State) : s.claim .router = true ↔
    s.holdList ≠ [] ∨ s.mPort.rx ≠ [] ∨ ∃ i : Fin 32, (s.slots[i]).claimsExpiry = true := by
  rw [← firstOverdue_isSome_iff]
  unfold State.claim State.answerToTake
  cases s.holdList <;> cases firstOverdue s <;> cases s.mPort.rx <;> simp

theorem claim_management_iff (s : State) : s.claim .management = true ↔
    ∃ (r : Reply) (rest : List Reply), s.replies = r :: rest ∧ r.abortAhead = 0 ∧ r.holdAhead = 0 := by
  unfold State.claim State.replyToGo Reply.freeToGo
  cases s.replies <;> simp

/-- Settles O20: the grant by `granted_eq_some_iff`, and each producer's claim by its test. -/
theorem theArbiterGrantsTheFirstClaimInRotation : Obligations.TheArbiterGrantsTheFirstClaimInRotation := by
  intro s
  refine ⟨fun q => ?_, ?_, ?_, ?_, claim_management_iff s, Iff.rfl⟩
  · rw [granted_eq_some_iff, cFree_iff]
  · simp [State.claim, State.takingHeld]
  · simp [State.claim, ParkItem.claims, or_comm]
  · rw [claim_router_iff]
    simp only [Slot.claimsExpiry_iff]

/-! ## Taking and placing -/

theorem takeHead_eq (x : PortState) : x.takeHead =
    if x.training = .up then
      { x with
        rx := x.rx.tail
        owed := if x.owed < 16 then x.owed + 1 else 1
        sent := if x.owed < 16 then x.sent else x.sent ++ [.credit x.owed] }
    else { x with rx := x.rx.tail } := by
  simp only [PortState.takeHead, isUp_iff, oweCredit_eq]

theorem placeC_of_up {s : State} (h : s.cPort.training = .up) (pkt : Packet) :
    placeC pkt s = { s with cPort := { s.cPort with tx := s.cPort.tx ++ [pkt] } } :=
  if_pos (isUp_of_up h)

theorem placeC_of_not_up {s : State} (h : s.cPort.training ≠ .up) (pkt : Packet) : placeC pkt s = s :=
  if_neg (mt (isUp_iff _).mp h)

/-- Settles O21: the two takings by `takeHead_eq`, the placing by the C-port's state, and the packets' fields. -/
theorem takingAndPlacingTouchOnlyTheirPort : Obligations.TakingAndPlacingTouchOnlyTheirPort := by
  intro s taken
  refine ⟨?_, ?_, fun pkt h => placeC_of_up h pkt, fun pkt h => placeC_of_not_up h pkt,
    fun dest tag status length data => rfl, fun p code more status results hpayload => ?_⟩
  · rw [takeFromC, takeHead_eq]
    rfl
  · rw [takeFromM, takeHead_eq]
    rfl
  · rw [State.replied, reply, replyTo, hpayload]
    rfl

/-! ## The heads of the waiting lists -/

/-- Settles O31: the head of each list under its producer's grant. -/
theorem theHeadsOfTheAbortAndReplyListsArePlaced : Obligations.TheHeadsOfTheAbortAndReplyListsArePlaced := by
  refine fun s => ⟨fun a rest hgrants hlist => ?_, fun r rest hgrants hlist => ?_⟩
  · obtain ⟨hhigh, hgranted⟩ := hgrants
    have hexec : exec .abortListPlace s = .next (placeAbortHead s) := whenRunning_high hhigh _
    have hplace : placeAbortHead s = ((placeC (answerPacket s a.dest a.tag .aborted a.length [])
        (grantTo .parkQueue s)).setAbortList rest).setReplies (s.replies.map Reply.abortPlaced) := by
      rw [placeAbortHead, if_pos hgranted, hlist]
      simp only [placeC_replies]
      rfl
    rw [hexec, hplace]
    rfl
  · obtain ⟨hhigh, hgranted⟩ := hgrants
    have hexec : exec .mreplyPlace s = .next (placeReplyHead s) := whenRunning_high hhigh _
    obtain ⟨r', rest', hlist', habort, hhold⟩ := (claim_management_iff s).mp (granted_claim hgranted).2
    obtain ⟨rfl, rfl⟩ := List.cons.inj (hlist.symm.trans hlist')
    have htogo : s.replyToGo = some r := by simp [State.replyToGo, hlist, Reply.freeToGo, habort, hhold]
    have hplace : placeReplyHead s = (placeC r.packet (grantTo .management s)).setReplies rest := by
      rw [placeReplyHead, if_pos hgranted, htogo, hlist]
      rfl
    rw [hexec, hplace]
    rfl

/-- Settles O37: the ALERT that the granted alert controller places, byte for byte. -/
theorem aDueAlertIsPlacedWithASnapshotOfTheLog : Obligations.ADueAlertIsPlacedWithASnapshotOfTheLog := by
  rintro s ⟨hhigh, hgranted⟩
  have hexec : exec .alert s = .next (placeAlert s) := whenRunning_high hhigh _
  rw [hexec, placeAlert, if_pos hgranted, alertPacket]
  simp only [placeC_alert]
  cases s.log.firstPending <;> rfl

/-! ## The recording of a fault -/

/-- Where one pending record has the key of the fault, its repeat count rises (R128 case 1). -/
theorem FaultLog.record_repeat {l : FaultLog} {f : FaultInfo} {i : Fin 16} (now : Tick)
    (hi : (l.records[i]).Holds f) (honly : ∀ j : Fin 16, (l.records[j]).Holds f → j = i) :
    l.record f now = ({ l with records := setAt l.records i (l.records[i]).bump }, false) := by
  have hfind : findIndex (fun r : FaultRecord => r.pending && r.info.sameKey f) l.records = some i :=
    findIndex_unique ((FaultRecord.holds_iff _ f).mpr hi) fun j hj => honly j ((FaultRecord.holds_iff _ f).mp hj)
  simp only [FaultLog.record, hfind]

theorem condition_eq (a : AlertCtl) (up : Bool) : a.condition up =
    if a.due = true then { a with pending := false }
    else if a.mask = false ∧ up = true then { a with pending := false, due := true }
    else { a with pending := true } := by
  simp [AlertCtl.condition]

/-- Settles O36: the four cases of R128, and `recordFault_eq` with the edges of R139. -/
theorem aRecordingFollowsTheFourCasesAndTheAlertsEdges :
    Obligations.ARecordingFollowsTheFourCasesAndTheAlertsEdges := by
  refine ⟨fun l f now => ?_, fun f s => ?_⟩
  · intro holds
    refine ⟨fun i hi honly => FaultLog.record_repeat now hi honly, fun hnew hflag => ?_, fun hnew hflag hroom => ?_,
      fun hnew hflag hroom => ?_⟩
    · rw [FaultLog.record_new now hnew, if_pos hflag]
    · rw [FaultLog.record_new now hnew, if_neg (by simp [hflag]), if_pos hroom]
    · have hcount : (l.pendingCount == 0) = decide (∀ i : Fin 16, (l.records[i]).pending = false) := by
        rw [beq_eq_decide]
        exact decide_eq_decide.mpr l.pendingCount_eq_zero_iff
      rw [FaultLog.record_new now hnew, if_neg (by simp [hflag]), if_neg (Bool.eq_false_iff.mp hroom), hcount]
      rfl
  · rw [recordFault_eq, condition_eq]
    simp only [State.cUp, isUp_iff]
    cases (s.log.record f s.tick).2 <;> rfl

/-! ## The freeing of a slot -/

theorem listReply_eq (pkt : Packet) (abortAhead holdAhead : Nat) (s : State) : listReply pkt abortAhead holdAhead s =
    s.setReplies (if s.cUp then s.replies ++ [{ packet := pkt, abortAhead := abortAhead, holdAhead := holdAhead }]
      else s.replies) := by
  unfold listReply
  split <;> rfl

/-- A completion changes the long operation and the reply list alone. -/
theorem completeRetire_eq (s : State) : completeRetire s =
    (s.setLongOp (completeRetire s).longOp).setReplies (completeRetire s).replies := by
  unfold completeRetire
  split
  · split
    · rfl
    · rw [listReply_eq]; rfl
  · rfl
  · rfl

theorem completeSetMode_eq (s : State) : completeSetMode s =
    (s.setLongOp (completeSetMode s).longOp).setReplies (completeSetMode s).replies := by
  unfold completeSetMode
  split
  · split
    · rfl
    · rw [listReply_eq]; rfl
  · rfl
  · rfl

/-- Steps 1 to 4 of R104: the slot, its window and the free list, before any completion. -/
def freedTables (i : Fin 32) (s : State) : State :=
  ((s.setSlots (setAt s.slots i (s.slots[i]).freed)).setWindows
    (match (s.slots[i]).window with
     | some j => setAt s.windows j (s.windows[j]).lowered
     | none => s.windows)).setFreeList (s.freeList ++ [i])

theorem freeSlot_eq (i : Fin 32) (s : State) :
    freeSlot i s = completeSetMode (completeRetire (freedTables i s)) := by
  unfold freeSlot freedTables
  dsimp only
  cases (s.slots[i]).window <;> rfl

/-- Of two writes of the long operation and the reply list the second stands. -/
theorem rewrite_longOp (s : State) (a c : LongOp) (b d : List Reply) :
    (((s.setLongOp a).setReplies b).setLongOp c).setReplies d = (s.setLongOp c).setReplies d := rfl

/-- The freeing of a slot changes the tables of R104, the long operation and the reply list, and nothing else. -/
theorem freeSlot_frame (i : Fin 32) (s : State) : freeSlot i s =
    ((freedTables i s).setLongOp (freeSlot i s).longOp).setReplies (freeSlot i s).replies := by
  have h1 := completeRetire_eq (freedTables i s)
  have h2 := completeSetMode_eq (completeRetire (freedTables i s))
  rw [← freeSlot_eq] at h2
  rwa [h1, rewrite_longOp] at h2

section
variable (i : Fin 32) (s : State)
theorem freeSlot_slots : (freeSlot i s).slots = setAt s.slots i (s.slots[i]).freed := by
  rw [freeSlot_frame]; rfl

theorem freeSlot_windows : (freeSlot i s).windows = match (s.slots[i]).window with
    | some j => setAt s.windows j (s.windows[j]).lowered
    | none => s.windows := by
  rw [freeSlot_frame]; rfl

theorem freeSlot_freeList : (freeSlot i s).freeList = s.freeList ++ [i] := by
  rw [freeSlot_frame]; rfl
end

theorem anyDraining_iff (s : State) : s.anyDraining = true ↔ ∃ j : Fin 64, (s.windows[j]).state = .draining := by
  simp only [State.anyDraining, anyTable_iff, beq_iff_eq]

theorem anyMarked_iff (s : State) : s.anyMarked = true ↔ ∃ i : Fin 32, (s.slots[i]).drainMark = true :=
  anyTable_iff _ _

theorem anyDraining_eq_false_iff (s : State) :
    s.anyDraining = false ↔ ∀ j : Fin 64, (s.windows[j]).state ≠ .draining := by
  rw [← Bool.not_eq_true, anyDraining_iff, not_exists]

theorem anyMarked_eq_false_iff (s : State) : s.anyMarked = false ↔ ∀ i : Fin 32, (s.slots[i]).drainMark = false :=
  anyTable_eq_false _ _

theorem completeRetire_of_other {s : State} (h : s.longOp.isRetire = false) : completeRetire s = s := by
  unfold completeRetire
  split
  next hop => rw [hop] at h; cases h
  next => rfl
  next => rfl

theorem completeRetire_of_draining {s : State} (h : s.anyDraining = true) : completeRetire s = s := by
  unfold completeRetire
  split
  · rw [if_pos h]
  · rfl
  · rfl

theorem completeSetMode_of_other {s : State} (h : s.longOp.isSetMode = false) : completeSetMode s = s := by
  unfold completeSetMode
  split
  next hop => rw [hop] at h; cases h
  next => rfl
  next => rfl

theorem completeSetMode_of_marked {s : State} (h : s.anyMarked = true) : completeSetMode s = s := by
  unfold completeSetMode
  split
  · rw [if_pos h]
  · rfl
  · rfl

/-- A long operation that has drained leaves its reply on the list, unless the C-port is not UP (R23, R66, R147). -/
def State.endLongOp (s : State) (src : SourceId) (tag : Tag) (code : Byte) (results : List Byte) : State :=
  (s.setLongOp .idle).setReplies (if s.cUp then
    s.replies ++ [{ packet := mreplyPacket s src tag code .ok results, abortAhead := 0, holdAhead := 0 }]
  else s.replies)

theorem completeRetire_of_drained {s : State} {src : SourceId} {tag : Tag} {retired : Nat} {widened : Bool}
    (hop : s.longOp = .retire src tag retired widened) (h : s.anyDraining = false) :
    completeRetire s = s.endLongOp src tag 0x09 [BitVec.ofNat 8 retired, flagByte widened] := by
  simp only [completeRetire, hop, h, listReply_eq]
  rfl

theorem completeSetMode_of_drained {s : State} {src : SourceId} {tag : Tag} {oldMode : Mode} {marked : Nat}
    (hop : s.longOp = .setMode src tag oldMode marked) (h : s.anyMarked = false) :
    completeSetMode s = s.endLongOp src tag 0x0A [BitVec.ofNat 8 oldMode.code, BitVec.ofNat 8 marked] := by
  simp only [completeSetMode, hop, h, listReply_eq]
  rfl

/-- Settles O33: each completion by whether its kind of long operation is in progress and has drained. -/
theorem aDrainedLongOperationEndsWithItsReply : Obligations.ADrainedLongOperationEndsWithItsReply := by
  intro s hhigh listed
  have hretire : exec .retireComplete s = .next (completeRetire s) := whenRunning_high hhigh _
  have hsetMode : exec .setModeComplete s = .next (completeSetMode s) := whenRunning_high hhigh _
  refine ⟨fun src tag retired widened hop hdrained => ?_, fun src tag oldMode marked hop hdrained => ?_, fun h => ?_,
    fun h => ?_⟩
  · rw [hretire, completeRetire_of_drained hop ((anyDraining_eq_false_iff s).mpr hdrained)]
    rfl
  · rw [hsetMode, completeSetMode_of_drained hop ((anyMarked_eq_false_iff s).mpr hdrained)]
    rfl
  · rw [hretire]
    rcases h with h | h
    · rw [completeRetire_of_other h]
    · rw [completeRetire_of_draining ((anyDraining_iff s).mpr h)]
  · rw [hsetMode]
    rcases h with h | h
    · rw [completeSetMode_of_other h]
    · rw [completeSetMode_of_marked ((anyMarked_iff s).mpr h)]

/-- With no long operation in progress a freed slot completes none. -/
theorem freeSlot_of_idle {i : Fin 32} {s : State} (h : s.longOp = .idle) : freeSlot i s = freedTables i s := by
  have hop : (freedTables i s).longOp = .idle := h
  rw [freeSlot_eq, completeRetire_of_other (by rw [hop]; rfl), completeSetMode_of_other (by rw [hop]; rfl)]

/-- With a RETIRE in progress a freed slot may complete that one. -/
theorem freeSlot_of_retire {i : Fin 32} {s : State} (h : s.longOp.isRetire = true) :
    freeSlot i s = completeRetire (freedTables i s) := by
  have hop : (freedTables i s).longOp = s.longOp := rfl
  cases hlong : s.longOp with
  | idle | setMode => rw [hlong] at h; cases h
  | retire src tag retired widened =>
    rw [hlong] at hop
    rw [freeSlot_eq]
    cases hdrain : (freedTables i s).anyDraining with
    | true =>
      rw [completeRetire_of_draining hdrain, completeSetMode_of_other (by rw [hop]; rfl)]
    | false =>
      rw [completeRetire_of_drained hop hdrain, completeSetMode_of_other rfl]

/-- With a SET_MODE in progress a freed slot may complete that one. -/
theorem freeSlot_of_setMode {i : Fin 32} {s : State} (h : s.longOp.isSetMode = true) :
    freeSlot i s = completeSetMode (freedTables i s) := by
  have hop : (freedTables i s).longOp = s.longOp := rfl
  have hother : (freedTables i s).longOp.isRetire = false := by
    rw [hop]
    cases hlong : s.longOp with
    | idle | setMode => rfl
    | retire => rw [hlong] at h; cases h
  rw [freeSlot_eq, completeRetire_of_other hother]

/-- Settles O32: the tables by `freeSlot_frame`, the long operation by its kind. -/
theorem freeingASlotLowersItsWindowAndMayEndALongOperation :
    Obligations.FreeingASlotLowersItsWindowAndMayEndALongOperation := by
  intro i s t listed
  have htables : t.windows = (freedTables i s).windows ∧ t.slots = (freedTables i s).slots := by
    constructor
    · exact freeSlot_windows i s
    · exact freeSlot_slots i s
  refine ⟨?_, freeSlot_slots i s, fun hnone => ?_, fun w hw => ?_, fun hidle => ?_,
    fun src tag retired widened hop => ⟨fun hdrain => ?_, fun hdrained => ?_⟩,
    fun src tag oldMode marked hop => ⟨fun hmarked => ?_, fun hclear => ?_⟩⟩
  · rw [htables.1, htables.2]
    simpa only [freedTables, State.setSlots, State.setWindows, State.setFreeList, State.setLongOp, State.setReplies]
      using freeSlot_frame i s
  · have hwindows := freeSlot_windows i s
    rw [hnone] at hwindows
    exact hwindows
  · have hwindows := freeSlot_windows i s
    rw [hw] at hwindows
    simp only [WindowEntry.lowered, Nat.sub_eq_zero_iff_le] at hwindows
    exact hwindows
  · show (freeSlot i s).longOp = _ ∧ (freeSlot i s).replies = _
    rw [freeSlot_of_idle hidle]
    exact ⟨hidle, rfl⟩
  · have ht : t = completeRetire (freedTables i s) := freeSlot_of_retire (by rw [hop]; rfl)
    rw [htables.1] at hdrain
    rw [ht, completeRetire_of_draining ((anyDraining_iff _).mpr hdrain)]
    exact ⟨rfl, rfl⟩
  · have ht : t = completeRetire (freedTables i s) := freeSlot_of_retire (by rw [hop]; rfl)
    rw [htables.1] at hdrained
    rw [ht, completeRetire_of_drained (s := freedTables i s) hop ((anyDraining_eq_false_iff _).mpr hdrained)]
    exact ⟨rfl, rfl⟩
  · have ht : t = completeSetMode (freedTables i s) := freeSlot_of_setMode (by rw [hop]; rfl)
    rw [htables.2] at hmarked
    rw [ht, completeSetMode_of_marked ((anyMarked_iff _).mpr hmarked)]
    exact ⟨rfl, rfl⟩
  · have ht : t = completeSetMode (freedTables i s) := freeSlot_of_setMode (by rw [hop]; rfl)
    rw [htables.2] at hclear
    rw [ht, completeSetMode_of_drained (s := freedTables i s) hop ((anyMarked_eq_false_iff _).mpr hclear)]
    exact ⟨rfl, rfl⟩

/-! ## The C-port's loss -/

/-- The decided faults of the LEAVING items, in queue order (R81, R89). -/
def leavingFaults (items : List ParkItem) : List FaultInfo :=
  items.filterMap fun it =>
    match it.state with
    | .leaving _ fault => some fault
    | .parked _ => none

theorem foldl_recordLeavingFault (items : List ParkItem) (s : State) :
    items.foldl recordLeavingFault s = (leavingFaults items).foldl (fun u fault => recordFault fault u) s := by
  rw [leavingFaults, List.foldl_filterMap]
  congr 1
  funext u it
  unfold recordLeavingFault
  cases it.state <;> rfl

/-- Recording faults leaves the park queue. -/
theorem foldl_recordFault_park (l : List FaultInfo) (s : State) :
    (l.foldl (fun u fault => recordFault fault u) s).park = s.park :=
  foldl_keeps (P := fun t => t.park = s.park) (fun t f h => (recordFault_park f t).trans h) l s rfl

theorem foldl_recordFault_holdList (l : List FaultInfo) (s : State) :
    (l.foldl (fun u fault => recordFault fault u) s).holdList = s.holdList :=
  foldl_keeps (P := fun t => t.holdList = s.holdList) (fun t f h => (recordFault_holdList f t).trans h) l s rfl

theorem setHoldList_self {s : State} {x : List HoldEntry} (h : s.holdList = x) : s.setHoldList x = s := by
  subst h
  rfl

/-- Recording faults looks at no held answer. -/
theorem foldl_recordFault_setHoldList (l : List FaultInfo) (s : State) (x : List HoldEntry) :
    (l.foldl (fun u fault => recordFault fault u) s).setHoldList x
      = l.foldl (fun u fault => recordFault fault u) (s.setHoldList x) := by
  induction l generalizing s with
  | nil => rfl
  | cons f l ih =>
    have hone : (recordFault f s).setHoldList x = recordFault f (s.setHoldList x) := by
      rw [recordFault_eq, recordFault_eq]; rfl
    rw [List.foldl_cons, List.foldl_cons, ih, hone]

/-- The C-port's record, and every list that waits for it, after its loss and before the faults are recorded (R165). -/
def State.cLost (s : State) (after : Training) : State :=
  (((((s.setCPort (s.cPort.leaveUp after)).setPark []).setAbortList []).setReplies []).setAlert
    s.alert.withdraw).setHoldList []

/-- The loss of the C-port discards what waits and records the decided faults; its SLOT trigger finds nothing
(R165, R89; log 24). -/
theorem cPortLeavesUp_eq (after : Training) (s : State) :
    cPortLeavesUp after s = (leavingFaults s.park).foldl (fun u fault => recordFault fault u) (s.cLost after) := by
  unfold cPortLeavesUp State.cLost
  dsimp only
  rw [foldl_recordLeavingFault, ← foldl_recordFault_setHoldList]
  split
  next hempty =>
    rw [State.setCPort_alert, setHoldList_self]
    rw [foldl_recordFault_holdList]
    exact List.isEmpty_iff.mp hempty
  next => exact trigger_of_empty (by rw [State.setHoldList_park, foldl_recordFault_park]; rfl)

theorem cLost_eq (after : Training) (s : State) : s.cLost after =
    { s with
      cPort :=
        { s.cPort with
          training := after, trainCount := 0, lastOffer := none, agreed := none, negotiated := none
          lossTicks := if after = .down then none else s.cPort.lossTicks
          credits := 0, owed := 0, tx := []
          indications := { s.cPort.indications with wentDown := true } }
      park := []
      abortList := []
      holdList := []
      replies := []
      alert := if s.alert.due = true then { s.alert with due := false, pending := true } else s.alert } := by
  simp only [State.cLost, State.setCPort, State.setPark, State.setAbortList, State.setReplies, State.setAlert,
    State.setHoldList, PortState.leaveUp, PortState.enter, AlertCtl.withdraw]

/-- Settles O14: `cPortLeavesUp_eq`, with the state before the faults field by field. -/
theorem theLossOfTheCPortDiscardsWhatWaitsToBeSent : Obligations.TheLossOfTheCPortDiscardsWhatWaitsToBeSent := by
  intro after s _
  rw [portLeavesUp, cPortLeavesUp_eq, cLost_eq]
  rfl

end Sys2Proof.Machine
end

section
/-! TICK as a whole (R151, R113, R97, R158), the lookup and the translation of an address (R4 to R7), and the router's
events (R97 to R101, R106, R107). -/

namespace Sys2Proof.Machine

/-! ## TICK -/

/-- What a command makes of a state, where it completes. -/
def effectOf (u : State) (c : Instr) : State :=
  match exec c u with
  | .next v => v
  | .fault _ | .refused _ => u

/-- A fold of commands is the fold of their events while RST_N is high. -/
theorem foldl_effectOf {α : Type} {command : α → Instr} {event : α → State → State}
    (hexec : ∀ x u, u.inReset = false → exec (command x) u = .next (event x u))
    (hhigh : ∀ x u, (event x u).kept = u.kept) (l : List α) {s : State} (h : s.inReset = false) :
    (l.map command).foldl effectOf s = l.foldl (fun u x => event x u) s ∧
      (l.foldl (fun u x => event x u) s).inReset = false := by
  induction l generalizing s with
  | nil => exact ⟨rfl, h⟩
  | cons x l ih =>
    have hone : effectOf s (command x) = event x s := by rw [effectOf, hexec x s h]
    have hnext : (event x s).inReset = false := (kept_iff.mp (hhigh x s)).1.2.1.trans h
    rw [List.map_cons, List.foldl_cons, List.foldl_cons, hone]
    exact ih hnext

/-- What falls due on a tick, in the order in which TICK takes it (log 5). -/
def dueEvents : List Instr :=
  [.alignmentLossExpiry .c, .alignmentLossExpiry .m] ++ (List.finRange 4).map .meterRollover ++ [.expiryDue]
    ++ (List.finRange 32).map .slotOverdue

/-- TICK takes what is due by the events' own commands, and then the SLOT triggers that wait. -/
theorem settleDue_eq {s : State} (h : s.inReset = false) :
    settleDue s = takeDueTriggers (dueEvents.foldl effectOf s) := by
  obtain ⟨hlosses, h1⟩ := foldl_effectOf (command := .alignmentLossExpiry) (event := expireLoss)
    (fun p u hu => whenRunning_high hu _) expireLoss_kept [.c, .m] h
  obtain ⟨hrollovers, h2⟩ := foldl_effectOf (command := .meterRollover) (event := rollOverIfDue)
    (fun m u hu => whenRunning_high hu _) rollOverIfDue_kept (List.finRange 4) h1
  obtain ⟨hmarks, h3⟩ := foldl_effectOf (command := fun _ : Unit => .expiryDue) (event := fun _ => markExpired)
    (fun _ u hu => whenRunning_high hu _) (fun _ => markExpired_kept) [()] h2
  obtain ⟨hoverdue, -⟩ := foldl_effectOf (command := .slotOverdue) (event := slotBecomesOverdue)
    (fun i u hu => whenRunning_high hu _) slotBecomesOverdue_kept (List.finRange 32) h3
  have hdue : dueEvents = [Port.c, .m].map .alignmentLossExpiry ++ (List.finRange 4).map .meterRollover
      ++ [()].map (fun _ => .expiryDue) ++ (List.finRange 32).map .slotOverdue := rfl
  rw [hdue, List.foldl_append, List.foldl_append, List.foldl_append, hlosses, hrollovers, hmarks, hoverdue]
  rfl

/-- A fold whose every turn leaves the state leaves it. -/
theorem foldl_stays {α : Type} {f : State → α → State} {s : State} (h : ∀ x, f s x = s) (l : List α) :
    l.foldl f s = s := by
  induction l with
  | nil => rfl
  | cons x l ih => rw [List.foldl_cons, h x, ih]

theorem markExpired_of_marked {s : State}
    (h : ∀ it ∈ s.park, it.isParked = true → s.parkLimit ≤ age s.tick it.arrival → it.expiryDue = true) :
    markExpired s = s := by
  have hsame : s.park.map (fun it => if it.isParked && it.reachedLimit s.tick s.parkLimit then
      { it with expiryDue := true } else it) = s.park := by
    refine (List.map_congr_left fun it hit => ?_).trans (List.map_id s.park)
    split
    next htest =>
      simp only [ParkItem.reachedLimit, Bool.and_eq_true, decide_eq_true_eq] at htest
      rw [← h it hit htest.1 htest.2]
      rfl
    next => rfl
  rw [markExpired, hsame]
  rfl

/-- With nothing due, nothing is taken. -/
theorem settleDue_of_none_due {s : State} (hc : s.cPort.lossTicks ≠ some 2000) (hm : s.mPort.lossTicks ≠ some 2000)
    (hmeters : ∀ m : Fin 4, (s.meters[m]).rolloverDue = false)
    (hmarks : ∀ it ∈ s.park, it.isParked = true → s.parkLimit ≤ age s.tick it.arrival → it.expiryDue = true)
    (hslots : ∀ i : Fin 32, (s.slots[i]).state = .waiting → (s.slots[i]).deadline = s.tick → (s.slots[i]).overdue = true)
    (hnone : s.slotTriggersDue = 0) : settleDue s = s := by
  have hlossC : expireLoss .c s = s := if_neg hc
  have hlossM : expireLoss .m s = s := if_neg hm
  have hrollover : ∀ m, rollOverIfDue m s = s := fun m => if_neg fun hdue => by
    rw [hmeters m] at hdue
    cases hdue.2
  have hoverdue : ∀ i, slotBecomesOverdue i s = s := fun i => if_neg fun hdue => by
    obtain ⟨hwaiting, hmark, hdeadline⟩ := (Slot.reachesDeadline_iff _ _).mp hdue
    rw [hslots i hwaiting hdeadline] at hmark
    cases hmark
  unfold settleDue
  dsimp only
  rw [hlossC, hlossM, foldl_stays hrollover (List.finRange 4), markExpired_of_marked hmarks, foldl_stays hoverdue (List.finRange 32), takeDueTriggers_of_none hnone]

theorem countTick_meter_eq (x : Meter) : x.countTick =
    if x.state = .stopped then x
    else if x.periodCount + 1 < x.period then { x with periodCount := x.periodCount + 1 }
    else { x with rolloverDue := true } := by
  unfold Meter.countTick
  cases x.state <;> rfl

/-- Settles O7: `settleDue_eq`, `settleDue_of_none_due`, and the advance record by record. -/
theorem tickAdvancesTheTimebaseTheMetersAndTheLosses : Obligations.TickAdvancesTheTimebaseTheMetersAndTheLosses := by
  intro s hhigh due settled taken advanced
  have hadvance : ∀ u : State, advanced u (advanceTime u) := fun u =>
    ⟨rfl, fun m => (mapTable_get _ _ m).trans (countTick_meter_eq _), fun i => mapTable_get _ _ i⟩
  have hexec : exec .tick s = .next (advanceTime (settleDue s)) := by rw [exec_tick, whenRunning_high hhigh]
  refine ⟨⟨_, hexec, ?_⟩, fun hc hm hmeters hmarks hslots hnone => ⟨_, hexec, ?_⟩⟩
  · have htaken : settleDue s = taken := settleDue_eq hhigh
    rw [htaken]
    exact hadvance taken
  · rw [settleDue_of_none_due hc hm hmeters hmarks hslots hnone]
    exact hadvance s

/-! ## Lookup and translation -/

theorem valuesOk_iff (e : WindowEntry) : e.valuesOk = true ↔ 12 ≤ e.sizeExp ∧ e.sizeExp ≤ 36 ∧
    e.cardBase.toNat % 2 ^ e.sizeExp = 0 ∧ e.memBase.toNat % 2 ^ e.sizeExp = 0 ∧
    e.cardBase.toNat + 2 ^ e.sizeExp ≤ 2 ^ 40 ∧ e.memBase.toNat + 2 ^ e.sizeExp ≤ 2 ^ 40 := by
  simp only [WindowEntry.valuesOk, Bool.and_eq_true, decide_eq_true_eq, beq_iff_eq, and_assoc]

/-- Within the window, the translated address stands as far above the memory base as the address above the card base. -/
theorem translate_toNat {e : WindowEntry} {a : Addr} (hbase : e.cardBase.toNat ≤ a.toNat)
    (hroom : e.memBase.toNat + (a.toNat - e.cardBase.toNat) < 2 ^ 40) :
    (e.translate a).toNat = e.memBase.toNat + (a.toNat - e.cardBase.toNat) := by
  have hoffset : (a - e.cardBase).toNat = a.toNat - e.cardBase.toNat :=
    BitVec.toNat_sub_of_le (BitVec.le_def.mpr hbase)
  rw [WindowEntry.translate, BitVec.toNat_add, hoffset, Nat.mod_eq_of_lt hroom]

/-- Settles O22: the search finds the one match (`lookup_of_matches`), and an offset below the window's size keeps the
low bits of the address and the high bits of the memory base. -/
theorem lookupFindsTheMatchAndTranslationStaysInside : Obligations.LookupFindsTheMatchAndTranslationStaysInside := by
  refine ⟨fun s d a hlaw => ⟨fun i => ⟨fun h => ?_, fun h => lookup_of_matches hlaw h⟩, fun h i hi => ?_,
    fun h => lookup_of_no_match h⟩, fun e a length hvalues hbase hlimit hlength => ?_⟩
  · exact (admits_iff _ _ _).mp (findIndex_some (p := fun e : WindowEntry => e.admits d a) h)
  · rw [lookup_of_matches hlaw hi] at h
    cases h
  · obtain ⟨-, -, hcard, hmem, -, hroom⟩ := (valuesOk_iff e).mp hvalues
    have hoffset : a.toNat - e.cardBase.toNat < 2 ^ e.sizeExp := by omega
    have htranslated := translate_toNat hbase (by omega)
    obtain ⟨c, hc⟩ := Nat.dvd_of_mod_eq_zero hcard
    obtain ⟨m, hm⟩ := Nat.dvd_of_mod_eq_zero hmem
    have ha : a.toNat = 2 ^ e.sizeExp * c + (a.toNat - e.cardBase.toNat) := by omega
    rw [htranslated]
    refine ⟨rfl, by omega, by omega, ?_, ?_⟩
    · conv_rhs => rw [ha]
      rw [hm, Nat.mul_add_mod, Nat.mul_add_mod]
    · rw [hm, Nat.mul_add_div (Nat.two_pow_pos _), Nat.div_eq_of_lt hoffset, Nat.add_zero,
        Nat.mul_div_cancel_left _ (Nat.two_pow_pos _)]

/-! ## The router -/

/-- The answer of a READ or WRITE slot with its upstream tag is placed (R97, R100). -/
theorem answerSlot_of_tag {x : Slot} {tag : Tag} (hkind : x.kind ≠ .confirm) (htag : x.upTag = some tag)
    (status : AnswerStatus) (data : List Byte) (s : State) :
    answerSlot x status data s = placeC (answerPacket s x.origin tag status x.length data) s := by
  unfold answerSlot
  cases hk : x.kind with
  | confirm => exact absurd hk hkind
  | read | write => rw [htag]

theorem exec_deadlineExpiry {s : State} {i : Fin 32} (hgrants : s.Grants .router) (hempty : s.holdList = [])
    (hfirst : firstOverdue s = some i) : exec .deadlineExpiry s = .next (expireSlot i (grantTo .router s)) := by
  have hexec : exec .deadlineExpiry s = .next (takeDeadlineExpiry s) := whenRunning_high hgrants.1 _
  rw [hexec, takeDeadlineExpiry, if_pos ⟨hgrants.2, hempty⟩, hfirst]

theorem reqKind_of_not_confirm {k : SlotKind} (h : k ≠ .confirm) : k.reqKind = if k = .read then .read else .write := by
  cases k with
  | read | write => rfl
  | confirm => exact absurd rfl h

/-- Settles O35: `firstOverdue_eq_some_iff`, the expiry of that slot, and the head of the hold list. -/
theorem theRouterPlacesExpiriesAndHeldAnswers : Obligations.TheRouterPlacesExpiriesAndHeldAnswers := by
  refine ⟨fun s i => ⟨?_, fun tag hgrants hempty hfirst htag => ?_⟩, fun s h rest hgrants hlist => ?_⟩
  · simp only [firstOverdue_eq_some_iff, Slot.claimsExpiry_iff]
  · obtain ⟨hclaims, -⟩ := (firstOverdue_eq_some_iff s i).mp hfirst
    obtain ⟨-, -, hkind⟩ := (Slot.claimsExpiry_iff _).mp hclaims
    rw [exec_deadlineExpiry hgrants hempty hfirst, expireSlot]
    have hanswer := answerSlot_of_tag hkind htag .timeout [] (grantTo .router s)
    have hslot : (grantTo .router s).slots[i] = s.slots[i] := rfl
    rw [hslot]
    simp only [hanswer, slotFault, reqKind_of_not_confirm hkind]
    rfl
  · intro u
    have hexec : exec .holdListPlace s = .next (placeHoldHead s) := whenRunning_high hgrants.1 _
    have hplace : placeHoldHead s = if rest.isEmpty then slotTrigger u else u := by
      rw [placeHoldHead, if_pos hgrants.2, hlist]
      simp only [placeC_replies]
      rfl
    rw [hexec, hplace]
    simp only [List.isEmpty_iff]

theorem exec_answer {s : State} {pkt : Packet} {rest : List Packet} (hgrants : s.Grants .router)
    (hempty : s.holdList = []) (hnone : firstOverdue s = none) (hrx : s.mPort.rx = pkt :: rest)
    (hkind : pkt.kind = .answer) : exec .answer s = .next (routeAnswer pkt (takeFromM s)) := by
  have hexec : exec .answer s = .next (takeAnswer s) := whenRunning_high hgrants.1 _
  have htake : s.answerToTake = some pkt := by simp [State.answerToTake, hempty, hnone, hrx]
  rw [hexec, takeAnswer, if_pos hgrants.2, htake]
  simp only [if_pos hkind]

theorem matchesTag_iff (x : Slot) (t : Tag) :
    x.matchesTag t = true ↔ x.state = .waiting ∧ x.generation.toNat = t.toNat / 32 := by
  simp [Slot.matchesTag]

theorem fitsCPayload_iff (s : State) (n : Nat) :
    fitsCPayload s n = true ↔ ∀ p, s.cPort.negotiated = some p → n ≤ p := by
  unfold fitsCPayload
  cases s.cPort.negotiated <;> simp

theorem slotOfTag_eq {t : Tag} {i : Fin 32} (h : i.val = t.toNat % 32) : slotOfTag t = i := Fin.ext h.symm

/-- Settles O34: the answer's slot by `slotOfTag_eq`, then `routeMatched` by the slot's kind and the answer's fields. -/
theorem anAnswerIsRoutedByItsSlotOrDiscardedAsLate : Obligations.AnAnswerIsRoutedByItsSlotOrDiscardedAsLate := by
  refine ⟨fun s pkt rest i tag hgrants hempty hnone hrx hanswer hi hwaiting hgeneration => ?_,
    fun s pkt rest i hgrants hempty hnone hrx hanswer hi hlate => ?_⟩
  · obtain rfl := slotOfTag_eq hi
    intro x fault answered ends
    have hslot : (takeFromM s).slots[slotOfTag pkt.tag] = x := rfl
    have hroute : exec .answer s = ends (routeMatched x pkt (takeFromM s)) := by
      rw [exec_answer hgrants hempty hnone hrx hanswer, routeAnswer, hslot,
        if_pos ((matchesTag_iff _ _).mpr ⟨hwaiting, hgeneration⟩)]
      rfl
    have hanswered : x.kind ≠ .confirm → x.upTag = some tag → ∀ status data,
        answerSlot x status data (takeFromM s) = answered status data := fun hkind htag status data =>
      answerSlot_of_tag hkind htag status data (takeFromM s)
    refine ⟨fun hkind htag hstatus => ?_, fun hkind htag hstatus hlength => ?_, fun hkind htag hstatus hlength hfits => ?_,
      fun n hkind htag hstatus hlength hn hlong => ?_, fun hkind htag => ?_, fun hkind hstatus => ?_,
      fun hkind hstatus => ?_⟩
    · rw [hroute, routeMatched, hkind]
      simp only [if_pos hstatus, hanswered (by simp [hkind]) htag]
    · rw [hroute, routeMatched, hkind]
      simp only [if_neg (not_not.mpr hstatus), if_pos hlength, hanswered (by simp [hkind]) htag, slotFault, hkind]
      rfl
    · have hplaced : fitsCPayload (takeFromM s) pkt.payload.length = true :=
        (fitsCPayload_iff _ _).mpr (by rw [hlength]; exact hfits)
      rw [hroute, routeMatched, hkind]
      simp only [if_neg (not_not.mpr hstatus), if_neg (not_not.mpr hlength), if_pos hplaced,
        hanswered (by simp [hkind]) htag]
    · have hrefused : ¬fitsCPayload (takeFromM s) pkt.payload.length = true := fun hfits => by
        have := (fitsCPayload_iff _ _).mp hfits n hn
        omega
      rw [hroute, routeMatched, hkind]
      simp only [if_neg (not_not.mpr hstatus), if_neg (not_not.mpr hlength), if_neg hrefused,
        hanswered (by simp [hkind]) htag]
    · rw [hroute, routeMatched, hkind]
      simp only [hanswered (by simp [hkind]) htag]
    · rw [hroute, routeMatched, hkind]
      simp only [if_pos hstatus]
    · rw [hroute, routeMatched, hkind]
      simp only [if_neg hstatus, slotFault, hkind]
      rfl
  · obtain rfl := slotOfTag_eq hi
    have hslot : (takeFromM s).slots[slotOfTag pkt.tag] = s.slots[slotOfTag pkt.tag] := rfl
    have hnot : ¬(s.slots[slotOfTag pkt.tag]).matchesTag pkt.tag = true := fun hmatch => by
      obtain ⟨hwaiting, hgeneration⟩ := (matchesTag_iff _ _).mp hmatch
      exact hlate.elim (fun h => h hwaiting) fun h => h hgeneration
    rw [exec_answer hgrants hempty hnone hrx hanswer, routeAnswer, hslot, if_neg hnot]

end Sys2Proof.Machine
end

section
/-! The bytes of packets and requests (R156, R169), the refusals of the management unit (R144), and the requests that
read (R18, R36, R120, R132, R133, R136, R150). -/

namespace Sys2Proof.Machine

/-! ## Numbers as bytes -/

@[simp] theorem leBytes_length (n v : Nat) : (leBytes n v).length = n := by
  induction n generalizing v with
  | zero => rfl
  | succ n ih => simp [leBytes, ih]

/-- A number that fits its bytes is read back from them. -/
theorem ofLe_leBytes {n v : Nat} (h : v < 256 ^ n) : ofLe (leBytes n v) = v := by
  induction n generalizing v with
  | zero => simp at h; simp [leBytes, ofLe, h]
  | succ n ih =>
    have hrest : v / 256 < 256 ^ n := by
      rw [Nat.div_lt_iff_lt_mul (by decide), ← Nat.pow_succ]
      exact h
    rw [leBytes, ofLe, ih hrest, BitVec.toNat_ofNat]
    exact Nat.mod_add_div v 256

theorem ofLe_lt (l : List Byte) : ofLe l < 256 ^ l.length := by
  induction l with
  | nil => simp [ofLe]
  | cons b l ih =>
    have hb := b.isLt
    rw [ofLe, List.length_cons, Nat.pow_succ]
    omega

theorem fieldAt_lt (l : List Byte) (i n : Nat) : fieldAt l i n < 256 ^ n := by
  refine Nat.lt_of_lt_of_le (ofLe_lt _) (Nat.pow_le_pow_right (by decide) ?_)
  rw [List.length_take]
  exact Nat.min_le_left _ _

theorem leBytes_one (v : Nat) : leBytes 1 v = [BitVec.ofNat 8 v] := rfl

theorem byte_toNat {v : Nat} (h : v < 256) : (BitVec.ofNat 8 v).toNat = v := by
  rw [BitVec.toNat_ofNat]
  exact Nat.mod_eq_of_lt h

/-! ## The packet header -/

theorem kindOfCode_kindCode {k : PacketKind} (h : k.wellFormed = true) : kindOfCode (kindCode k) = k := by
  cases k with
  | unknown c =>
    simp only [PacketKind.wellFormed, Bool.not_eq_true', Bool.and_eq_false_iff, decide_eq_false_iff_not] at h
    unfold kindOfCode kindCode
    dsimp only
    split
    iterate 7 omega
    rfl
  | _ => rfl

theorem setWidth_back (x : SourceId) : (x.setWidth 8).setWidth 6 = x := by
  rw [BitVec.setWidth_setWidth_of_le x (by decide), BitVec.setWidth_eq]

/-- Settles O19: each field is read at the place where its bytes were put, and the length field gives the length. -/
theorem aPacketsBytesSpellThePacket : Obligations.APacketsBytesSpellThePacket := by
  intro pkt hwell
  simp only [Packet.wellFormed, Bool.and_eq_true, decide_eq_true_eq] at hwell
  obtain ⟨⟨hkind, hlength⟩, hpayload⟩ := hwell
  have hbytes : (packetBytes pkt).length = 16 + pkt.payload.length := by
    simp [packetBytes]
    omega
  have hpayloadField : fieldAt (packetBytes pkt) 12 2 = pkt.payload.length := ofLe_leBytes (n := 2) hpayload
  have hlengthField : fieldAt (packetBytes pkt) 5 2 = pkt.length := ofLe_leBytes (n := 2) hlength
  have haddressField : fieldAt (packetBytes pkt) 7 5 = pkt.address.toNat := ofLe_leBytes (n := 5) pkt.address.isLt
  have hkindField : kindOfCode ((packetBytes pkt).getD 0 0) = pkt.kind := kindOfCode_kindCode hkind
  have hsource : ((packetBytes pkt).getD 1 0).setWidth 6 = pkt.source := setWidth_back pkt.source
  have hdest : ((packetBytes pkt).getD 2 0).setWidth 6 = pkt.dest := setWidth_back pkt.dest
  have haddress : BitVec.ofNat 40 pkt.address.toNat = pkt.address := by simp
  rw [packetOfBytes, if_pos ⟨by omega, by rw [hpayloadField, hbytes]⟩, hkindField, hsource, hdest, hlengthField,
    haddressField, haddress]
  rfl

/-! ## The rows of the management unit, by their bodies -/

/-- What a row does with a permitted MREQ of its own. -/
def MgmtRow.body : MgmtRow → Packet → State → State
  | .identify => mgmtIdentify
  | .getSetting => mgmtGetSetting
  | .setSetting => mgmtSetSetting
  | .setMeterSetting => mgmtSetMeterSetting
  | .getDomain => mgmtGetDomain
  | .setDomain => mgmtSetDomain
  | .loadWindow => mgmtLoadWindow
  | .widenWindow => mgmtWidenWindow
  | .readWindow => mgmtReadWindow
  | .retireEntry => mgmtRetireEntry
  | .retireRange => mgmtRetireRange
  | .retireDomain => mgmtRetireDomain
  | .retireAll => mgmtRetireAll
  | .setMode => mgmtSetMode
  | .meterRun => meterControl 0 Meter.run false
  | .meterStop => meterControl 1 Meter.stop true
  | .meterRestart => meterControl 2 Meter.freshPeriod true
  | .readFault => mgmtReadFault
  | .releaseFault => mgmtReleaseFault
  | .clearOverflow => mgmtClearOverflow
  | .faultSummary => mgmtFaultSummary
  | .portStatus => mgmtPortStatus
  | .resetWarm => mgmtResetWarm
  | .badRequest => fun p s => reply p .badRequest [] s

/-- The command of a row is the taking of its MREQ with its body. -/
theorem exec_command (row : MgmtRow) (s : State) :
    exec row.command s = whenRunning s (takeMreq row row.body) := by
  cases row <;> rfl

/-- A permitted MREQ of a row is executed by the row's body on the state after the taking. -/
theorem exec_of_asks {s : State} {p : Packet} {payload : List Byte} {row : MgmtRow} (h : s.Asks p payload)
    (hrow : mreqRow payload = row) : exec row.command s = .next (row.body p (takeFromC s)) := by
  rw [exec_command]
  exact takeMreq_of_asks h hrow _

/-! ## Refusals -/

/-- Settles O38: the two ways to be permitted, and `takeMreq_of_unpermitted` for every row. -/
theorem aRequestOfAnUnpermittedSourceIsDenied : Obligations.ARequestOfAnUnpermittedSourceIsDenied := by
  refine ⟨fun s src => ?_, fun s p htakes hkind hdenied => ?_⟩
  · rw [permitted, Bool.or_eq_true, Bool.and_eq_true, beq_iff_eq]
  · rw [exec_command]
    exact takeMreq_of_unpermitted htakes hkind hdenied _

/-- The rows with one exact payload length, with their lengths (R156). -/
def rowLengths : List (MgmtRow × Nat) :=
  [(.identify, 1), (.getSetting, 2), (.setMeterSetting, 9), (.getDomain, 2), (.setDomain, 7), (.loadWindow, 17),
    (.widenWindow, 3), (.readWindow, 2)]
  ++ [(.retireEntry, 15), (.retireRange, 15), (.retireDomain, 15), (.retireAll, 15), (.setMode, 2), (.meterRun, 3),
    (.meterStop, 3), (.meterRestart, 3)]
  ++ [(.readFault, 2), (.releaseFault, 2), (.clearOverflow, 1), (.faultSummary, 1), (.portStatus, 2), (.resetWarm, 2)]

/-- A row with one exact length refuses every other (R144 check 3). -/
theorem body_of_wrong_length {row : MgmtRow} {n : Nat} (h : (row, n) ∈ rowLengths) {p : Packet}
    (hlength : p.payload.length ≠ n) (s : State) : row.body p s = reply p .badRequest [] s := by
  simp only [rowLengths, List.cons_append, List.nil_append, List.mem_cons, Prod.mk.injEq, List.not_mem_nil,
    or_false] at h
  rcases h with ⟨rfl, rfl⟩ | ⟨rfl, rfl⟩ | ⟨rfl, rfl⟩ | ⟨rfl, rfl⟩ | ⟨rfl, rfl⟩ | ⟨rfl, rfl⟩ | ⟨rfl, rfl⟩ | ⟨rfl, rfl⟩ |
    ⟨rfl, rfl⟩ | ⟨rfl, rfl⟩ | ⟨rfl, rfl⟩ | ⟨rfl, rfl⟩ | ⟨rfl, rfl⟩ | ⟨rfl, rfl⟩ | ⟨rfl, rfl⟩ | ⟨rfl, rfl⟩ |
    ⟨rfl, rfl⟩ | ⟨rfl, rfl⟩ | ⟨rfl, rfl⟩ | ⟨rfl, rfl⟩ | ⟨rfl, rfl⟩ | ⟨rfl, rfl⟩ <;> exact if_neg hlength

/-- A request code that names no request goes to the row of BAD_REQUEST (R144 check 2). -/
theorem mreqRow_of_unknown_code {c : Byte} {more : List Byte} (h : c.toNat = 0 ∨ 0x11 < c.toNat) :
    mreqRow (c :: more) = .badRequest := by
  unfold mreqRow
  simp only [List.head?_cons]
  split
  iterate 17 omega
  rfl

/-- Request code 03h goes to SET_SETTING but for the items of the meters (log 8). -/
theorem mreqRow_setSetting {more : List Byte} (h : ¬(4 ≤ byteAt (0x03 :: more) 1 ∧ byteAt (0x03 :: more) 1 ≤ 7)) :
    mreqRow (0x03 :: more) = .setSetting := if_neg h

/-- Settles O39: the row and the length check of each request. -/
theorem aMalformedRequestIsBadRequest : Obligations.AMalformedRequestIsBadRequest := by
  intro s p h
  have hsetting : ∀ more, p.payload = 0x03 :: more →
      ¬(4 ≤ byteAt (0x03 :: more) 1 ∧ byteAt (0x03 :: more) 1 ≤ 7) →
      exec .setSetting s = .next (mgmtSetSetting p (takeFromC s)) := fun more hp hitem =>
    exec_of_asks (row := .setSetting) h (by rw [hp]; exact mreqRow_setSetting hitem)
  refine ⟨fun c more hp hc => ?_, fun row n hmem hrow hlength => ?_, fun hp => ?_, fun item more hp => ?_⟩
  · exact exec_of_asks (row := .badRequest) h (by rw [hp]; exact mreqRow_of_unknown_code hc)
  · rw [exec_of_asks h hrow, body_of_wrong_length hmem hlength]
    rfl
  · rw [hsetting [] hp (by decide), mgmtSetSetting, if_pos (by simp [hp])]
    rfl
  · have hitem : byteAt p.payload 1 = item.toNat := by rw [hp]; rfl
    have hshort : ¬p.payload.length < 2 := by simp [hp]
    have hbody : mgmtSetSetting p (takeFromC s) =
        if 7 < item.toNat then s.replied p .badValue []
        else withLength (settingLength item.toNat) p (takeFromC s) fun s =>
          match writeSetting s item.toNat (fieldAt p.payload 2 (settingLength item.toNat - 2)) with
          | some t => reply p .ok (itemByte item.toNat ++ (settingBytes t item.toNat).getD []) t
          | none => reply p .badValue [] s := by
      rw [mgmtSetSetting, if_neg hshort]
      simp only [hitem]
      rfl
    refine ⟨fun hlow hlength => ?_, fun hlow hhigh hlength => ?_, fun hbig => ?_⟩
    · rw [hsetting _ hp (fun hmeter => by have := hmeter.1; rw [← hp, hitem] at this; omega), hbody, if_neg (by omega),
        settingLength, if_pos hlow, withLength_wrong (by rw [hp]; simpa using hlength)]
      rfl
    · rw [hsetting _ hp (fun hmeter => by have := hmeter.1; rw [← hp, hitem] at this; omega), hbody, if_neg (by omega),
        settingLength, if_neg (by omega), withLength_wrong (by rw [hp]; simpa using hlength)]
      rfl
    · rw [hsetting _ hp (fun hmeter => by have := hmeter.2; rw [← hp, hitem] at this; omega), hbody, if_pos hbig]

/-! ### Codes that name no value -/

theorem flagOfCode_of_lt {v : Nat} (h : 1 < v) : flagOfCode v = none := by
  obtain ⟨n, rfl⟩ := Nat.exists_eq_add_of_le' h
  rfl

theorem classOfCode_of_lt {v : Nat} (h : 1 < v) : classOfCode v = none := by
  obtain ⟨n, rfl⟩ := Nat.exists_eq_add_of_le' h
  rfl

theorem policyOfCode_of_lt {v : Nat} (h : 1 < v) : policyOfCode v = none := by
  obtain ⟨n, rfl⟩ := Nat.exists_eq_add_of_le' h
  rfl

theorem deliveryOfCode_of_lt {v : Nat} (h : 1 < v) : deliveryOfCode v = none := by
  obtain ⟨n, rfl⟩ := Nat.exists_eq_add_of_le' h
  rfl

theorem basisOfCode_of_lt {v : Nat} (h : 1 < v) : basisOfCode v = none := by
  obtain ⟨n, rfl⟩ := Nat.exists_eq_add_of_le' h
  rfl

theorem meterActionOfCode_of_lt {v : Nat} (h : 1 < v) : meterActionOfCode v = none := by
  obtain ⟨n, rfl⟩ := Nat.exists_eq_add_of_le' h
  rfl

theorem modeOfCode_of_lt {v : Nat} (h : 2 < v) : modeOfCode v = none := by
  obtain ⟨n, rfl⟩ := Nat.exists_eq_add_of_le' h
  rfl

theorem windowDomainOfCode_of_lt {v : Nat} (h : 16 < v) : windowDomainOfCode v = none := by
  rw [windowDomainOfCode, dif_neg (by omega), if_neg (by omega)]

theorem rightsOfCode_of_lt {v : Nat} (h : 7 < v) : rightsOfCode v = none := by
  rw [rightsOfCode, if_neg (by omega)]

theorem bindingOfCode_of_out {v : Nat} (h : 3 < v) (hnone : v ≠ 255) : bindingOfCode v = none := by
  rw [bindingOfCode, dif_neg (by omega), if_neg hnone]

theorem portOfCode_of_lt {v : Nat} (h : 1 < v) : portOfCode v = none := by
  obtain ⟨n, rfl⟩ := Nat.exists_eq_add_of_le' h
  rfl

theorem settingBytes_of_lt (s : State) {item : Nat} (h : 9 < item) : settingBytes s item = none := by
  obtain ⟨n, rfl⟩ := Nat.exists_eq_add_of_le' h
  rfl

/-- What the operands of an accepted LOAD_WINDOW spell (R12). -/
theorem windowOf_some {l : List Byte} {e : WindowEntry} (h : windowOf l = some e) :
    (windowDomainOfCode (byteAt l 2) = some e.domain ∧ rightsOfCode (byteAt l 14) = some e.rights ∧
      deliveryOfCode (byteAt l 15) = some e.delivery ∧ bindingOfCode (byteAt l 16) = some e.meter) ∧
    e.sizeExp = byteAt l 8 ∧ e.cardBase.toNat = fieldAt l 3 5 ∧ e.memBase.toNat = fieldAt l 9 5 ∧
    e.valuesOk = true ∧ e.state = .active ∧ e.inFlight = 0 ∧ e.admissions = 0 := by
  have hfield : ∀ i, (BitVec.ofNat 40 (fieldAt l i 5)).toNat = fieldAt l i 5 := fun i => by
    rw [BitVec.toNat_ofNat]
    exact Nat.mod_eq_of_lt (fieldAt_lt l i 5)
  unfold windowOf at h
  split at h
  next domain rights delivery meter hdomain hrights hdelivery hmeter =>
    split at h
    · dsimp only at h
      split at h
      next hvalues =>
        cases h
        exact ⟨⟨hdomain, hrights, hdelivery, hmeter⟩, rfl, hfield 3, hfield 9, hvalues, rfl, rfl, rfl⟩
      next => cases h
    · cases h
  next => cases h

theorem windowOf_of_bad {l : List Byte}
    (h : 16 < byteAt l 2 ∨ byteAt l 8 < 12 ∨ 36 < byteAt l 8 ∨ fieldAt l 3 5 % 2 ^ byteAt l 8 ≠ 0
      ∨ fieldAt l 9 5 % 2 ^ byteAt l 8 ≠ 0 ∨ 2 ^ 40 < fieldAt l 3 5 + 2 ^ byteAt l 8
      ∨ 2 ^ 40 < fieldAt l 9 5 + 2 ^ byteAt l 8 ∨ 7 < byteAt l 14 ∨ 1 < byteAt l 15
      ∨ (3 < byteAt l 16 ∧ byteAt l 16 ≠ 255)) : windowOf l = none := by
  cases hw : windowOf l with
  | none => rfl
  | some e =>
    obtain ⟨⟨hdomain, hrights, hdelivery, hmeter⟩, hsize, hcard, hmem, hvalues, -⟩ := windowOf_some hw
    rw [valuesOk_iff, hsize, hcard, hmem] at hvalues
    obtain ⟨h12, h36, hcmod, hmmod, hctop, hmtop⟩ := hvalues
    rcases h with h | h | h | h | h | h | h | h | h | ⟨h, hnone⟩
    · rw [windowDomainOfCode_of_lt h] at hdomain; cases hdomain
    · omega
    · omega
    · exact absurd hcmod h
    · exact absurd hmmod h
    · omega
    · omega
    · rw [rightsOfCode_of_lt h] at hrights; cases hrights
    · rw [deliveryOfCode_of_lt h] at hdelivery; cases hdelivery
    · rw [bindingOfCode_of_out h hnone] at hmeter; cases hmeter

/-- What the operands of an accepted SET_SETTING of a meter spell (R118). -/
theorem meterSettingsOf_some {l : List Byte} {g : MeterSettings} (h : meterSettingsOf l = some g) :
    (basisOfCode (byteAt l 2) = some g.basis ∧ meterActionOfCode (byteAt l 7) = some g.action ∧
      flagOfCode (byteAt l 8) = some g.buffered) ∧
    g.period = fieldAt l 3 2 ∧ g.budget = fieldAt l 5 2 ∧ fieldAt l 3 2 ≠ 0 := by
  unfold meterSettingsOf at h
  split at h
  next basis action buffered hbasis haction hbuffered =>
    split at h
    next => cases h
    next hperiod =>
      cases h
      exact ⟨⟨hbasis, haction, hbuffered⟩, rfl, rfl, hperiod⟩
  next => cases h

theorem meterSettingsOf_of_bad {l : List Byte}
    (h : 1 < byteAt l 2 ∨ fieldAt l 3 2 = 0 ∨ 1 < byteAt l 7 ∨ 1 < byteAt l 8) : meterSettingsOf l = none := by
  cases hg : meterSettingsOf l with
  | none => rfl
  | some g =>
    obtain ⟨⟨hbasis, haction, hbuffered⟩, -, -, hperiod⟩ := meterSettingsOf_some hg
    rcases h with h | h | h | h
    · rw [basisOfCode_of_lt h] at hbasis; cases hbasis
    · exact absurd h hperiod
    · rw [meterActionOfCode_of_lt h] at haction; cases haction
    · rw [flagOfCode_of_lt h] at hbuffered; cases hbuffered

/-- What the operands of an accepted SET_DOMAIN spell (R34). -/
theorem domainRecordOf_some {l : List Byte} {r : DomainRecord} (h : domainRecordOf l = some r) :
    flagOfCode (byteAt l 2) = some r.valid ∧ indexOf 16 (byteAt l 3) = some r.domain ∧
      classOfCode (byteAt l 4) = some r.sourceClass ∧ policyOfCode (byteAt l 5) = some r.missPolicy ∧
      flagOfCode (byteAt l 6) = some r.mayManage := by
  unfold domainRecordOf at h
  split at h
  next hvalid hdomain hclass hpolicy hmanage =>
    cases h
    exact ⟨hvalid, hdomain, hclass, hpolicy, hmanage⟩
  next => cases h

theorem domainRecordOf_of_bad {l : List Byte}
    (h : 1 < byteAt l 2 ∨ 15 < byteAt l 3 ∨ 1 < byteAt l 4 ∨ 1 < byteAt l 5 ∨ 1 < byteAt l 6) :
    domainRecordOf l = none := by
  cases hr : domainRecordOf l with
  | none => rfl
  | some r =>
    obtain ⟨hvalid, hdomain, hclass, hpolicy, hmanage⟩ := domainRecordOf_some hr
    rcases h with h | h | h | h | h
    · rw [flagOfCode_of_lt h] at hvalid; cases hvalid
    · rw [indexOf_of_le h] at hdomain; cases hdomain
    · rw [classOfCode_of_lt h] at hclass; cases hclass
    · rw [policyOfCode_of_lt h] at hpolicy; cases hpolicy
    · rw [flagOfCode_of_lt h] at hmanage; cases hmanage

theorem retireChecked_of_idle {p : Packet} {s : State} (hlength : p.payload.length = 15) (hidle : s.longOp = .idle)
    (f : State → State) : retireChecked p s f = f s := by
  rw [retireChecked, withLength_right hlength, if_pos hidle]

/-- METER_CONTROL refuses a meter above 3, and an action that is not the row's own (R121; log 8). -/
theorem meterControl_of_bad {action : Nat} {act : Meter → Meter} {gives : Bool} {p : Packet} {s : State}
    (hlength : p.payload.length = 3) (h : 3 < byteAt p.payload 1 ∨ byteAt p.payload 2 ≠ action) :
    meterControl action act gives p s = reply p .badValue [] s := by
  rw [meterControl, withLength_right hlength]
  cases hi : indexOf 4 (byteAt p.payload 1) with
  | none => rfl
  | some m =>
    refine if_neg fun haction => ?_
    rcases h with h | h
    · rw [indexOf_of_le h] at hi; cases hi
    · exact h haction

/-- Settles O40: for each row, the operand that its decoding refuses. -/
theorem anOperandOutOfRangeIsBadValue : Obligations.AnOperandOutOfRangeIsBadValue := by
  intro s p h byte badValue is
  have hrun : ∀ row, mreqRow p.payload = row → row.body p (takeFromC s) = s.replied p .badValue [] → badValue row :=
    fun row hrow hbody => (exec_of_asks h hrow).trans (congrArg _ hbody)
  have hwrite : ∀ n item, mreqRow p.payload = .setSetting → p.payload.length = n → byteAt p.payload 1 = item →
      item ≤ 7 → settingLength item = n → (∀ u, writeSetting u item (fieldAt p.payload 2 (n - 2)) = none) →
      badValue .setSetting := fun n item hrow hlength hitem hbound hn hrefused => by
    refine hrun _ hrow ?_
    have htwo : ¬p.payload.length < 2 := by
      rw [hlength, ← hn, settingLength]
      split <;> omega
    rw [MgmtRow.body, mgmtSetSetting, if_neg htwo]
    simp only [hitem]
    rw [if_neg (by omega), hn, withLength_right hlength, hrefused]
    rfl
  refine ⟨?_, ?_, ?_, ?_, ?_, ?_, ?_, ?_, ?_, ?_, ?_, ?_, ?_, ?_, ?_, ?_, ?_, ?_, ?_, ?_, ?_, ?_⟩
  · rintro ⟨hrow, hlength⟩ hbad
    refine hrun _ hrow ?_
    rw [MgmtRow.body, mgmtGetSetting, withLength_right hlength, settingBytes_of_lt _ hbad]
    rfl
  · rintro ⟨hrow, hlength⟩ hitem hbad
    exact hwrite 4 0 hrow hlength hitem (by decide) rfl fun u =>
      if_neg (show ¬(1 ≤ fieldAt p.payload 2 2 ∧ fieldAt p.payload 2 2 ≤ 65535) by omega)
  · rintro ⟨hrow, hlength⟩ hitem hbad
    exact hwrite 4 1 hrow hlength hitem (by decide) rfl fun u =>
      if_neg (show ¬(16 ≤ fieldAt p.payload 2 2 ∧ fieldAt p.payload 2 2 ≤ 65535) by omega)
  · rintro ⟨hrow, hlength⟩ hitem hbad
    refine hwrite 3 2 hrow hlength hitem (by decide) rfl fun u => ?_
    have hfield : fieldAt p.payload 2 1 = byteAt p.payload 2 := by
      match p.payload, hlength with
      | [a, b, c], _ => exact Nat.add_zero _
    show (flagOfCode (fieldAt p.payload 2 1)).map _ = none
    rw [hfield, flagOfCode_of_lt hbad]
    rfl
  · rintro ⟨hrow, hlength⟩ hitem hbad
    refine hwrite 3 3 hrow hlength hitem (by decide) rfl fun u => if_neg ?_
    have hfield : fieldAt p.payload 2 1 = byteAt p.payload 2 := by
      match p.payload, hlength with
      | [a, b, c], _ => exact Nat.add_zero _
    show ¬fieldAt p.payload 2 1 ≤ 63
    rw [hfield]
    exact Nat.not_le.mpr hbad
  · rintro ⟨hrow, hlength⟩ hbad
    refine hrun _ hrow ?_
    rw [MgmtRow.body, mgmtSetMeterSetting, withLength_right hlength, meterSettingsOf_of_bad hbad]
    cases indexOf 4 (byteAt p.payload 1 - 4) <;> rfl
  · rintro ⟨hrow, hlength⟩ hbad
    refine hrun _ hrow ?_
    rw [MgmtRow.body, mgmtGetDomain, withLength_right hlength, indexOf_of_le hbad]
    rfl
  · rintro ⟨hrow, hlength⟩ hbad
    refine hrun _ hrow ?_
    rw [MgmtRow.body, mgmtSetDomain, withLength_right hlength]
    rcases hbad with hbad | hbad
    · rw [indexOf_of_le hbad]
      rfl
    · rw [domainRecordOf_of_bad hbad]
      cases indexOf 64 (byteAt p.payload 1) <;> rfl
  · rintro ⟨hrow, hlength⟩ hbad
    refine hrun _ hrow ?_
    rw [MgmtRow.body, mgmtLoadWindow, withLength_right hlength]
    rcases hbad with hbad | hbad
    · rw [indexOf_of_le hbad]
      rfl
    · rw [windowOf_of_bad hbad]
      cases indexOf 64 (byteAt p.payload 1) <;> rfl
  · rintro ⟨hrow, hlength⟩ hbad
    refine hrun _ hrow ?_
    rw [MgmtRow.body, mgmtWidenWindow, withLength_right hlength]
    rcases hbad with hbad | hbad
    · rw [indexOf_of_le hbad]
      rfl
    · rw [rightsOfCode_of_lt hbad]
      cases indexOf 64 (byteAt p.payload 1) <;> rfl
  · rintro ⟨hrow, hlength⟩ hbad
    refine hrun _ hrow ?_
    rw [MgmtRow.body, mgmtReadWindow, withLength_right hlength, indexOf_of_le hbad]
    rfl
  · rintro ⟨hrow, hlength⟩ hidle hbad
    refine hrun _ hrow ?_
    rw [MgmtRow.body, mgmtRetireEntry, retireChecked_of_idle hlength (s := takeFromC s) hidle]
    cases hi : indexOf 64 (byteAt p.payload 2) with
    | none => rfl
    | some i =>
      rcases hbad with hbad | hbad
      · exact if_pos (by have : 3 < byteAt p.payload 1 := hbad; omega)
      · rw [indexOf_of_le hbad] at hi; cases hi
  · rintro ⟨hrow, hlength⟩ hidle hbad
    refine hrun _ hrow ?_
    rw [MgmtRow.body, mgmtRetireRange, retireChecked_of_idle hlength (s := takeFromC s) hidle]
    dsimp only
    rcases hbad with hbad | hbad
    · rw [windowDomainOfCode_of_lt hbad]
      rfl
    · cases windowDomainOfCode (byteAt p.payload 3) with
      | none => rfl
      | some d => exact if_pos hbad
  · rintro ⟨hrow, hlength⟩ hidle hbad
    refine hrun _ hrow ?_
    rw [MgmtRow.body, mgmtRetireDomain, retireChecked_of_idle hlength (s := takeFromC s) hidle, indexOf_of_le hbad]
    rfl
  · rintro ⟨hrow, hlength⟩ hbad
    refine hrun _ hrow ?_
    rw [MgmtRow.body, mgmtSetMode, withLength_right hlength, modeOfCode_of_lt hbad]
    rfl
  · rintro ⟨hrow, hlength⟩ hbad
    refine hrun _ hrow (meterControl_of_bad hlength (hbad.imp_right fun haction => ?_))
    have : 2 < byteAt p.payload 2 := haction
    omega
  · rintro ⟨hrow, hlength⟩ hbad
    exact hrun _ hrow (meterControl_of_bad hlength (.inl hbad))
  · rintro ⟨hrow, hlength⟩ hbad
    exact hrun _ hrow (meterControl_of_bad hlength (.inl hbad))
  · rintro ⟨hrow, hlength⟩ hbad
    refine hrun _ hrow ?_
    rw [MgmtRow.body, mgmtReadFault, withLength_right hlength, indexOf_of_le hbad]
    rfl
  · rintro ⟨hrow, hlength⟩ hbad
    refine hrun _ hrow ?_
    rw [MgmtRow.body, mgmtReleaseFault, withLength_right hlength, indexOf_of_le hbad]
    rfl
  · rintro ⟨hrow, hlength⟩ hbad
    refine hrun _ hrow ?_
    rw [MgmtRow.body, mgmtPortStatus, withLength_right hlength, portOfCode_of_lt hbad]
    rfl
  · rintro ⟨hrow, hlength⟩ hbad
    refine hrun _ hrow ?_
    rw [MgmtRow.body, mgmtResetWarm, withLength_right hlength, if_neg hbad]
    rfl

end Sys2Proof.Machine
end

section
/-! The requests of the management unit that are accepted: those that read, the settings, the meters, the domain table,
LOAD_WINDOW, RETIRE and PORT_STATUS (Chapter 8). -/

namespace Sys2Proof.Machine

/-! ## The requests that read -/

/-- The kind's code is its place in the table of R127. -/
theorem FaultKind.code_eq_idxOf (k : FaultKind) : k.code =
    [FaultKind.noFault, .unknownSource, .shutRefused, .miss, .crossing, .rights, .oversize, .meterRefused, .parkFull,
      .parkExpired, .answerTimeout, .badAnswer, .targetFault, .lateAnswer, .targetLost, .mgmtDenied].idxOf k := by
  cases k <;> rfl

theorem settingBytes_meter (s : State) (m : Fin 4) : settingBytes s (4 + m.val) = some (s.meters[m]).bytes := by
  match m with
  | 0 | 1 | 2 | 3 => rfl

theorem exec_getSetting {s : State} {p : Packet} {item : Byte} {value : List Byte} (h : s.Asks p [0x02, item])
    (hvalue : settingBytes (takeFromC s) item.toNat = some value) :
    exec .getSetting s = .next (s.replied p .ok (itemByte item.toNat ++ value)) := by
  have htaken := exec_of_asks (row := .getSetting) h rfl
  have hitem : byteAt p.payload 1 = item.toNat := by rw [h.payload]; rfl
  rw [MgmtRow.body, mgmtGetSetting, withLength_right (by rw [h.payload]; rfl), hitem, hvalue] at htaken
  exact htaken

/-- A record at an index is read by a request of two bytes (R18, R36, R133). -/
theorem byteAt_one_of_asks {s : State} {p : Packet} {c b : Byte} (h : s.Asks p [c, b]) :
    byteAt p.payload 1 = b.toNat := by
  rw [h.payload]; rfl

theorem exec_getDomain {s : State} {p : Packet} {i : Fin 64} (h : s.Asks p [0x04, BitVec.ofNat 8 i.val]) :
    exec .getDomain s = .next (s.replied p .ok (leBytes 1 i.val ++ (s.domains[i]).bytes)) := by
  have htaken := exec_of_asks (row := .getDomain) h rfl
  rw [MgmtRow.body, mgmtGetDomain, withLength_right (by rw [h.payload]; rfl), byteAt_one_of_asks h,
    indexOf_byte_of_le (by decide)] at htaken
  exact htaken

theorem exec_readWindow {s : State} {p : Packet} {i : Fin 64} (h : s.Asks p [0x08, BitVec.ofNat 8 i.val]) :
    exec .readWindow s = .next (s.replied p .ok (leBytes 1 i.val ++ (s.windows[i]).bytes)) := by
  have htaken := exec_of_asks (row := .readWindow) h rfl
  rw [MgmtRow.body, mgmtReadWindow, withLength_right (by rw [h.payload]; rfl), byteAt_one_of_asks h,
    indexOf_byte_of_le (by decide)] at htaken
  exact htaken

theorem exec_readFault {s : State} {p : Packet} {i : Fin 16} (h : s.Asks p [0x0C, BitVec.ofNat 8 i.val]) :
    exec .readFault s = .next (s.replied p .ok (leBytes 1 i.val ++ (s.log.records[i]).bytes)) := by
  have htaken := exec_of_asks (row := .readFault) h rfl
  rw [MgmtRow.body, mgmtReadFault, withLength_right (by rw [h.payload]; rfl), byteAt_one_of_asks h,
    indexOf_byte_of_le (by decide)] at htaken
  exact htaken

theorem exec_faultSummary {s : State} {p : Packet} (h : s.Asks p [0x0F]) :
    exec .faultSummary s = .next (s.replied p .ok s.log.summary) := by
  have htaken := exec_of_asks (row := .faultSummary) h rfl
  rw [MgmtRow.body, mgmtFaultSummary, withLength_right (by rw [h.payload]; rfl)] at htaken
  exact htaken

/-! ### The first pending record -/

/-- How far a record stands behind the write position. -/
def FaultLog.behind (l : FaultLog) (i : Fin 16) : Nat := (i.val + 16 - l.writePos.val) % 16

/-- The records in the order of the scan of R132. -/
def FaultLog.scan (l : FaultLog) : List (Fin 16) := (List.finRange 16).map fun i => l.writePos + i

theorem behind_add (l : FaultLog) (i : Fin 16) : l.behind (l.writePos + i) = i.val := by
  rw [FaultLog.behind, Fin.val_add]
  omega

theorem scan_sorted (l : FaultLog) : l.scan.Pairwise fun a b => l.behind a < l.behind b := by
  rw [FaultLog.scan, List.pairwise_map]
  exact (List.pairwise_lt_finRange 16).imp fun h => by rw [behind_add, behind_add]; exact h

theorem mem_scan (l : FaultLog) (i : Fin 16) : i ∈ l.scan :=
  List.mem_map.mpr ⟨i - l.writePos, List.mem_finRange _, add_sub_cancel l.writePos i⟩

theorem firstPending_eq_some_iff (l : FaultLog) (i : Fin 16) : l.firstPending = some i ↔
    (l.records[i]).pending = true ∧ ∀ j : Fin 16, (l.records[j]).pending = true → l.behind i ≤ l.behind j :=
  find?_eq_some_iff_of_sorted (scan_sorted l) (mem_scan l) (fun i => (l.records[i]).pending) i

theorem firstPending_eq_none_iff (l : FaultLog) :
    l.firstPending = none ↔ ∀ i : Fin 16, (l.records[i]).pending = false := by
  have hnone : l.firstPending = none ↔ ∀ i ∈ l.scan, ¬(l.records[i]).pending = true := List.find?_eq_none
  rw [hnone]
  exact ⟨fun h i => Bool.not_eq_true _ ▸ h i (mem_scan l i), fun h i _ => by rw [h i]; exact Bool.false_ne_true⟩

/-- Settles O42: each request by its own equation, the bytes of a record spelled out, and the scan of R132. -/
theorem theReadingRequestsReturnTheStateAsItStands : Obligations.TheReadingRequestsReturnTheStateAsItStands := by
  intro s p
  refine ⟨fun h => exec_getSetting h rfl, fun h => exec_getSetting h rfl, fun h => exec_getSetting h rfl, fun h => ?_,
    fun m h => ?_, exec_getSetting_tick, fun h => exec_getSetting h rfl, fun i h => exec_getDomain h, fun i h => ?_,
    fun i h => ?_, ⟨firstPending_eq_some_iff s.log, firstPending_eq_none_iff s.log⟩, fun h => ?_⟩
  · have hexec := exec_getSetting h rfl
    rw [leBytes_one_toNat] at hexec
    exact hexec
  · intro x
    have hitem : (BitVec.ofNat 8 (4 + m.val)).toNat = 4 + m.val := byte_toNat (by omega)
    have hexec := exec_getSetting h (by rw [hitem]; exact settingBytes_meter _ m)
    rw [hexec, hitem]
    have hbytes : itemByte (4 + m.val) ++ x.bytes = [BitVec.ofNat 8 (4 + m.val), BitVec.ofNat 8 x.state.code,
        BitVec.ofNat 8 x.basis.code] ++ leBytes 2 x.period ++ leBytes 2 x.budget
          ++ [BitVec.ofNat 8 x.action.code, flagByte x.buffered, flagByte x.next.isSome]
          ++ (match x.next with
              | some n => leBytes 2 n.period ++ leBytes 2 n.budget
              | none => [0xFF, 0xFF, 0xFF, 0xFF])
          ++ leBytes 2 x.periodCount ++ leBytes 2 x.used := by
      rw [Meter.bytes]
      cases x.next <;> rfl
    exact congrArg (fun l => Host.Outcome.next (s.replied p .ok l)) hbytes
  · intro e
    rw [exec_readWindow h]
    have hbytes : leBytes 1 i.val ++ e.bytes = [BitVec.ofNat 8 i.val, BitVec.ofNat 8 e.state.code,
        BitVec.ofNat 8 e.domain.code] ++ leBytes 5 e.cardBase.toNat ++ [BitVec.ofNat 8 e.sizeExp]
          ++ leBytes 5 e.memBase.toNat ++ [BitVec.ofNat 8 e.rights.code, BitVec.ofNat 8 e.delivery.code]
          ++ (match e.meter with
              | some m => [BitVec.ofNat 8 m.val]
              | none => [0xFF])
          ++ [BitVec.ofNat 8 e.inFlight] ++ leBytes 4 e.admissions.toNat := by
      rw [WindowEntry.bytes]
      cases e.meter <;> rfl
    exact congrArg (fun l => Host.Outcome.next (s.replied p .ok l)) hbytes
  · intro x kinds
    rw [exec_readFault h]
    have hbytes : leBytes 1 i.val ++ x.bytes = [BitVec.ofNat 8 i.val, flagByte x.pending,
        BitVec.ofNat 8 (kinds.idxOf x.info.kind)]
          ++ (match x.info.source with
              | some src => [src.setWidth 8]
              | none => [0xFF])
          ++ (match x.info.locus with
              | .nowhere => [0, 0xFF, 0xFF, 0xFF, 0xFF]
              | .window j => 1 :: leBytes 4 j.val
              | .page q => 2 :: leBytes 4 q.toNat
              | .downTag t => 3 :: leBytes 4 t.toNat)
          ++ (match x.info.reqKind with
              | some .read => [0]
              | some .write => [1]
              | some .post => [2]
              | none => [0xFF])
          ++ (match x.info.address with
              | some a => leBytes 5 a.toNat
              | none => [0xFF, 0xFF, 0xFF, 0xFF, 0xFF])
          ++ leBytes 4 x.firstTick.toNat ++ [BitVec.ofNat 8 x.repeatCount] := by
      have hsource : optBytes 1 (x.info.source.map BitVec.toNat) = match x.info.source with
          | some src => [src.setWidth 8]
          | none => [0xFF] := by
        cases x.info.source with
        | none => rfl
        | some src => exact leBytes_one_toNat src
      have hlocus : leBytes 1 x.info.locus.typeCode ++ optBytes 4 x.info.locus.number = match x.info.locus with
          | .nowhere => [0, 0xFF, 0xFF, 0xFF, 0xFF]
          | .window j => 1 :: leBytes 4 j.val
          | .page q => 2 :: leBytes 4 q.toNat
          | .downTag t => 3 :: leBytes 4 t.toNat := by
        cases x.info.locus <;> rfl
      have hkind : optBytes 1 (x.info.reqKind.map ReqKind.code) = match x.info.reqKind with
          | some .read => [0]
          | some .write => [1]
          | some .post => [2]
          | none => [0xFF] := by
        cases x.info.reqKind with
        | none => rfl
        | some k => cases k <;> rfl
      have haddress : optBytes 5 (x.info.address.map BitVec.toNat) = match x.info.address with
          | some a => leBytes 5 a.toNat
          | none => [0xFF, 0xFF, 0xFF, 0xFF, 0xFF] := by
        cases x.info.address <;> rfl
      rw [FaultRecord.bytes, FaultKind.code_eq_idxOf, hsource, hkind, haddress, ← hlocus]
      simp only [leBytes_one, List.append_assoc, List.cons_append, List.nil_append]
      rfl
    exact congrArg (fun l => Host.Outcome.next (s.replied p .ok l)) hbytes
  · rw [exec_faultSummary h]
    have hbytes : s.log.summary = [BitVec.ofNat 8 (countTable FaultRecord.pending s.log.records)]
        ++ (match s.log.firstPending with
            | some i => [BitVec.ofNat 8 i.val]
            | none => [0xFF])
        ++ [flagByte s.log.overflow, BitVec.ofNat 8 s.log.writePos.val] := by
      rw [FaultLog.summary]
      cases s.log.firstPending <;> rfl
    exact congrArg (fun l => Host.Outcome.next (s.replied p .ok l)) hbytes

/-! ## A reply beside other changes -/

theorem reply_eq (p : Packet) (st : MgmtStatus) (l : List Byte) (s : State) :
    reply p st l s = s.setCPort (if s.cUp then s.cPort.enqueue (replyTo p st l s) else s.cPort) :=
  placeC_eq _ _

/-! ## SET_SETTING -/

/-- A SET_SETTING of one of the four items: the value is written and the reply reads it back (R152). -/
theorem exec_setSetting {s t : State} {p : Packet} {item : Byte} {value : List Byte} (h : s.Asks p (0x03 :: item :: value))
    (hitem : item.toNat ≤ 3) (hlength : value.length + 2 = settingLength item.toNat)
    (hwritten : writeSetting (takeFromC s) item.toNat (ofLe value) = some t) :
    exec .setSetting s = .next (reply p .ok (itemByte item.toNat ++ (settingBytes t item.toNat).getD []) t) := by
  have htaken := exec_of_asks (row := .setSetting) h (mreqRow_setSetting fun hmeter => by
    have hlow : 4 ≤ item.toNat := hmeter.1
    omega)
  have hpayload : p.payload.length = settingLength item.toNat := by rw [h.payload, ← hlength]; rfl
  have hbyte : byteAt p.payload 1 = item.toNat := by rw [h.payload]; rfl
  have hfield : fieldAt p.payload 2 (settingLength item.toNat - 2) = ofLe value := by
    rw [h.payload, ← hlength]
    simp [fieldAt]
  rw [MgmtRow.body, mgmtSetSetting, if_neg (by rw [hpayload, ← hlength]; omega)] at htaken
  simp only [hbyte] at htaken
  rw [if_neg (by omega), withLength_right hpayload, hfield, hwritten] at htaken
  exact htaken

/-- The mask of the alert written: setting it withdraws a due alert, clearing it releases a pending one (R140). -/
theorem writeMask_set (a : AlertCtl) (up : Bool) : a.writeMask true up =
    if a.mask = false ∧ a.due = true then { a with mask := true, due := false, pending := true }
    else { a with mask := true } := by
  obtain ⟨mask, dest, pending, due⟩ := a
  cases mask <;> cases due <;> rfl

theorem writeMask_clear (a : AlertCtl) (up : Bool) : a.writeMask false up =
    if a.mask = true ∧ a.pending = true ∧ up = true then { a with mask := false, due := true, pending := false }
    else { a with mask := false } := by
  obtain ⟨mask, dest, pending, due⟩ := a
  cases mask <;> cases pending <;> cases up <;> rfl

theorem writeMask_mask (a : AlertCtl) (m up : Bool) : (a.writeMask m up).mask = m := by
  cases m with
  | true => rw [writeMask_set]; split <;> rfl
  | false => rw [writeMask_clear]; split <;> rfl

/-- The taking of a packet leaves the port's training state. -/
@[simp] theorem takeFromC_cUp (s : State) : (takeFromC s).cUp = s.cUp := by
  show s.cPort.takeHead.isUp = s.cPort.isUp
  rw [takeHead_eq]
  split <;> rfl

theorem exec_setSetting_mask {s : State} {p : Packet} {m : Bool} (h : s.Asks p [0x03, 2, flagByte m]) :
    exec .setSetting s = .next ((s.replied p .ok [2, flagByte m]).setAlert (s.alert.writeMask m s.cUp)) := by
  have hwritten : writeSetting (takeFromC s) 2 (ofLe [flagByte m])
      = some ((takeFromC s).setAlert (s.alert.writeMask m s.cUp)) := by
    rw [← takeFromC_cUp s]
    cases m <;> rfl
  rw [exec_setSetting (item := 2) h (by show 2 ≤ 3; decide) rfl hwritten]
  have hvalue : settingBytes ((takeFromC s).setAlert (s.alert.writeMask m s.cUp)) 2 = some [flagByte m] := by
    rw [settingBytes, State.setAlert_alert, writeMask_mask]
  show Host.Outcome.next (reply p .ok (itemByte 2 ++ (settingBytes _ 2).getD []) _) = _
  rw [hvalue, State.replied, reply_eq, reply_eq]
  rfl

/-- Settles O43: `exec_setSetting` for each item, with the reply placed beside the change. -/
theorem setSettingWritesOneItemAndActsAtOnce : Obligations.SetSettingWritesOneItemAndActsAtOnce := by
  intro s p v
  refine ⟨fun h hlow hhigh => ?_, fun h hlow hhigh => ?_, fun h => ?_, fun h => ?_, fun h hv => ?_⟩
  · have hvalue : ofLe (leBytes 2 v) = v := ofLe_leBytes (by omega)
    rw [exec_setSetting (item := 0) h (by decide) rfl (by rw [hvalue]; exact if_pos ⟨hlow, hhigh⟩)]
    simp only [State.replied, reply_eq, markExpired, ParkItem.reachedLimit, Bool.and_eq_true, decide_eq_true_eq]
    rfl
  · have hvalue : ofLe (leBytes 2 v) = v := ofLe_leBytes (by omega)
    rw [exec_setSetting (item := 1) h (by decide) rfl (by rw [hvalue]; exact if_pos ⟨hlow, hhigh⟩)]
    simp only [State.replied, reply_eq]
    rfl
  · rw [exec_setSetting_mask (m := true) h, writeMask_set]
    rfl
  · rw [exec_setSetting_mask (m := false) h, writeMask_clear]
    simp only [State.cUp, isUp_iff]
    rfl
  · have hvalue : ofLe [BitVec.ofNat 8 v] = v := ofLe_leBytes (n := 1) (by omega)
    rw [exec_setSetting (item := 3) h (by decide) rfl (by rw [hvalue]; exact if_pos hv)]
    have hdest : (BitVec.ofNat 6 v).toNat = v := by
      rw [BitVec.toNat_ofNat]
      exact Nat.mod_eq_of_lt (by omega)
    simp only [State.replied, reply_eq, settingBytes, State.setAlert_alert, hdest]
    rfl

end Sys2Proof.Machine
end

section
/-! The requests that change the meters, the domain table and the windows, and PORT_STATUS (R20 to R22, R34, R118 to
R123, R168). -/

namespace Sys2Proof.Machine

/-! ## The meters' requests -/

/-- The state of a request that changes one meter and answers with its record (R118, R121). -/
def State.meterAnswered (s : State) (p : Packet) (head : List Byte) (m : Fin 4) (y : Meter) : State :=
  { s.replied p .ok (head ++ y.bytes) with meters := setAt s.meters m y }

theorem reply_setMeter (s : State) (p : Packet) (head : List Byte) (m : Fin 4) (y : Meter) :
    reply p .ok (head ++ (((takeFromC s).setMeter m y).meters[m]).bytes) ((takeFromC s).setMeter m y)
      = s.meterAnswered p head m y := by
  have hmeter : ((takeFromC s).setMeter m y).meters[m] = y := setAt_get_same _ _ _
  rw [hmeter, State.meterAnswered, State.replied, reply_eq, reply_eq]
  rfl

/-- METER_CONTROL with the row's own action (R121 to R123). -/
theorem meterControl_of_action {s : State} {p : Packet} {m : Fin 4} {code : Byte} (act : Meter → Meter) (gives : Bool)
    (hpayload : p.payload = [0x0B, BitVec.ofNat 8 m.val, code]) :
    meterControl code.toNat act gives p (takeFromC s) =
      if gives = true then meterTrigger m (s.meterAnswered p [] m (act s.meters[m]))
      else s.meterAnswered p [] m (act s.meters[m]) := by
  have hm : indexOf 4 (byteAt p.payload 1) = some m := by
    rw [hpayload]
    exact indexOf_byte_of_le (by decide) m
  have hcode : byteAt p.payload 2 = code.toNat := by rw [hpayload]; rfl
  rw [meterControl, withLength_right (by rw [hpayload]; rfl), hm]
  simp only [if_pos hcode]
  rw [← reply_setMeter]
  rfl

/-- Settles O45: `meterControl_of_action` for each action. -/
theorem meterControlRunsStopsAndRestarts : Obligations.MeterControlRunsStopsAndRestarts := by
  intro s p m x answered
  refine ⟨fun h => ?_, fun h => ?_, fun h => ?_⟩
  · have htaken : exec .meterRun s = .next (meterControl 0 Meter.run false p (takeFromC s)) :=
      exec_of_asks (row := .meterRun) h rfl
    rw [htaken]
    exact congrArg _ (meterControl_of_action (code := 0) Meter.run false h.payload)
  · have htaken : exec .meterStop s = .next (meterControl 1 Meter.stop true p (takeFromC s)) :=
      exec_of_asks (row := .meterStop) h rfl
    rw [htaken]
    exact congrArg _ (meterControl_of_action (code := 1) Meter.stop true h.payload)
  · have htaken : exec .meterRestart s = .next (meterControl 2 Meter.freshPeriod true p (takeFromC s)) :=
      exec_of_asks (row := .meterRestart) h rfl
    have hfresh := meterControl_of_action (s := s) (code := 2) Meter.freshPeriod true h.payload
    rw [freshPeriod_eq, if_pos rfl] at hfresh
    exact htaken.trans (congrArg _ hfresh)

theorem basisOfCode_byte (b : Basis) : basisOfCode (BitVec.ofNat 8 b.code).toNat = some b := by cases b <;> rfl

theorem meterActionOfCode_byte (a : MeterAction) : meterActionOfCode (BitVec.ofNat 8 a.code).toNat = some a := by
  cases a <;> rfl

theorem flagOfCode_byte (b : Bool) : flagOfCode (flagByte b).toNat = some b := by cases b <;> rfl

/-- The settings record that the operands of a SET_SETTING of a meter spell (R118). -/
theorem meterSettingsOf_payload (c item : Byte) (g : MeterSettings) (hlow : 1 ≤ g.period) (hhigh : g.period ≤ 65535)
    (hbudget : g.budget ≤ 65535) :
    meterSettingsOf ([c, item, BitVec.ofNat 8 g.basis.code] ++ leBytes 2 g.period ++ leBytes 2 g.budget
      ++ [BitVec.ofNat 8 g.action.code, flagByte g.buffered]) = some g := by
  have hperiod : ofLe (leBytes 2 g.period) = g.period := ofLe_leBytes (by omega)
  have hbudget' : ofLe (leBytes 2 g.budget) = g.budget := ofLe_leBytes (by omega)
  unfold meterSettingsOf
  show (match basisOfCode (BitVec.ofNat 8 g.basis.code).toNat, meterActionOfCode (BitVec.ofNat 8 g.action.code).toNat,
      flagOfCode (flagByte g.buffered).toNat with
    | some basis, some action, some buffered =>
      if ofLe (leBytes 2 g.period) = 0 then none
      else some { basis := basis, period := ofLe (leBytes 2 g.period), budget := ofLe (leBytes 2 g.budget),
                  action := action, buffered := buffered }
    | _, _, _ => none) = some g
  rw [basisOfCode_byte, meterActionOfCode_byte, flagOfCode_byte, hperiod, hbudget']
  exact if_neg (by omega)

/-- SET_SETTING of a meter: the meter after its settings, and the trigger of an immediate rollover (R118 to R120). -/
theorem exec_setMeterSetting {s : State} {p : Packet} {m : Fin 4} {g : MeterSettings} (hlow : 1 ≤ g.period)
    (hhigh : g.period ≤ 65535) (hbudget : g.budget ≤ 65535)
    (h : s.Asks p ([0x03, BitVec.ofNat 8 (4 + m.val), BitVec.ofNat 8 g.basis.code] ++ leBytes 2 g.period
      ++ leBytes 2 g.budget ++ [BitVec.ofNat 8 g.action.code, flagByte g.buffered])) :
    exec .setMeterSetting s = .next
      (if (s.meters[m]).rollsAtOnce g then
        meterTrigger m (s.meterAnswered p [BitVec.ofNat 8 (4 + m.val)] m ((s.meters[m]).afterSettings g))
      else s.meterAnswered p [BitVec.ofNat 8 (4 + m.val)] m ((s.meters[m]).afterSettings g)) := by
  have hitem : (BitVec.ofNat 8 (4 + m.val)).toNat = 4 + m.val := byte_toNat (by omega)
  have hbyte : byteAt p.payload 1 = 4 + m.val := by rw [h.payload]; exact hitem
  have hrow : mreqRow p.payload = .setMeterSetting := by
    rw [h.payload]
    refine if_pos ?_
    show 4 ≤ (BitVec.ofNat 8 (4 + m.val)).toNat ∧ (BitVec.ofNat 8 (4 + m.val)).toNat ≤ 7
    omega
  have hindex : indexOf 4 (byteAt p.payload 1 - 4) = some m := by
    rw [hbyte, Nat.add_sub_cancel_left, indexOf_val]
  have hsettings : meterSettingsOf p.payload = some g := by
    rw [h.payload]
    exact meterSettingsOf_payload _ _ g hlow hhigh hbudget
  have htaken := exec_of_asks (row := .setMeterSetting) h (h.payload ▸ hrow)
  rw [MgmtRow.body, mgmtSetMeterSetting, withLength_right (by rw [h.payload]; rfl), hindex, hsettings, hbyte] at htaken
  rw [← reply_setMeter]
  exact htaken

/-- Settles O44: `exec_setMeterSetting`, with the meter after its settings by the two flags. -/
theorem setMeterSettingAppliesOrBuffersPeriodAndBudget : Obligations.SetMeterSettingAppliesOrBuffersPeriodAndBudget := by
  intro s p m basis period budget action buffered hlow hhigh hbudget h x reached answered
  have hexec := exec_setMeterSetting
    (g := { basis := basis, period := period, budget := budget, action := action, buffered := buffered })
    hlow hhigh hbudget h
  have hreached : x.ticksReached = reached := by
    show x.periodCount + x.rolloverDue.toNat = x.periodCount + if x.rolloverDue = true then 1 else 0
    cases x.rolloverDue <;> rfl
  refine ⟨fun hflag => ?_, fun hflag hroom => ?_, fun hflag hfull => ?_⟩ <;> subst hflag
  · rw [hexec]
    exact congrArg Host.Outcome.next (if_neg Bool.false_ne_true)
  · have hstays : ¬x.rollsAtOnce
        { basis := basis, period := period, budget := budget, action := action, buffered := false } = true := by
      simp only [Meter.rollsAtOnce, hreached, Bool.not_false, Bool.true_and, decide_eq_true_eq]
      omega
    rw [hexec, if_neg hstays, Meter.afterSettings, if_neg Bool.false_ne_true, if_neg hstays, hreached]
    rfl
  · have hrolls : x.rollsAtOnce
        { basis := basis, period := period, budget := budget, action := action, buffered := false } = true := by
      simp only [Meter.rollsAtOnce, hreached, Bool.not_false, Bool.true_and, decide_eq_true_eq]
      exact hfull
    rw [hexec, if_pos hrolls, Meter.afterSettings, if_neg Bool.false_ne_true, if_pos hrolls]
    rfl

/-! ## SET_DOMAIN -/

theorem classOfCode_byte (c : SourceClass) : classOfCode (BitVec.ofNat 8 c.code).toNat = some c := by cases c <;> rfl

theorem policyOfCode_byte (c : MissPolicy) : policyOfCode (BitVec.ofNat 8 c.code).toNat = some c := by cases c <;> rfl

theorem domainRecordOf_payload (c i : Byte) (r : DomainRecord) : domainRecordOf [c, i, flagByte r.valid,
    BitVec.ofNat 8 r.domain.val, BitVec.ofNat 8 r.sourceClass.code, BitVec.ofNat 8 r.missPolicy.code,
    flagByte r.mayManage] = some r := by
  unfold domainRecordOf
  show (match flagOfCode (flagByte r.valid).toNat, indexOf 16 (BitVec.ofNat 8 r.domain.val).toNat,
      classOfCode (BitVec.ofNat 8 r.sourceClass.code).toNat, policyOfCode (BitVec.ofNat 8 r.missPolicy.code).toNat,
      flagOfCode (flagByte r.mayManage).toNat with
    | some valid, some domain, some cls, some policy, some mayManage =>
      some { valid := valid, domain := domain, sourceClass := cls, missPolicy := policy, mayManage := mayManage }
    | _, _, _, _, _ => none) = some r
  rw [flagOfCode_byte, indexOf_byte_of_le (by decide), classOfCode_byte, policyOfCode_byte, flagOfCode_byte]

/-- Settles O46: the operands read back, and the reply placed beside the table's change. -/
theorem setDomainReplacesTheRecordAndReturnsTheOldOne : Obligations.SetDomainReplacesTheRecordAndReturnsTheOldOne := by
  intro s p i r h
  have htaken := exec_of_asks (row := .setDomain) h rfl
  have hi : indexOf 64 (byteAt p.payload 1) = some i := by rw [h.payload]; exact indexOf_byte i
  have hr : domainRecordOf p.payload = some r := by rw [h.payload]; exact domainRecordOf_payload _ _ r
  rw [MgmtRow.body, mgmtSetDomain, withLength_right (by rw [h.payload]; rfl), hi, hr] at htaken
  refine htaken.trans (congrArg _ ?_)
  show reply p .ok (leBytes 1 i.val ++ (s.domains[i]).bytes) ((takeFromC s).setDomains (setAt s.domains i r)) = _
  rw [State.replied, reply_eq, reply_eq]
  rfl

/-! ## LOAD_WINDOW -/

theorem windowDomainOfCode_byte (d : WindowDomain) : windowDomainOfCode (BitVec.ofNat 8 d.code).toNat = some d := by
  cases d with
  | shared => rfl
  | numbered d =>
    have hd : (BitVec.ofNat 8 d.val).toNat = d.val := byte_toNat (by omega)
    rw [WindowDomain.code, hd, windowDomainOfCode, dif_pos d.isLt]

theorem deliveryOfCode_byte (d : Delivery) : deliveryOfCode (BitVec.ofNat 8 d.code).toNat = some d := by
  cases d <;> rfl

theorem bindingOfCode_byte (m : Option (Fin 4)) : bindingOfCode (match m with
    | some m => BitVec.ofNat 8 m.val
    | none => (0xFF : Byte)).toNat = some m := by
  cases m with
  | none => rfl
  | some m =>
    have hm : (BitVec.ofNat 8 m.val).toNat = m.val := byte_toNat (by omega)
    rw [hm, bindingOfCode, dif_pos m.isLt]

/-- The entry as LOAD_WINDOW activates it (R14). -/
def WindowEntry.loaded (e : WindowEntry) : WindowEntry := { e with state := .active, inFlight := 0, admissions := 0 }

/-- The operands of LOAD_WINDOW for an entry (R156). -/
def loadPayload (i : Byte) (e : WindowEntry) : List Byte :=
  [0x06, i, BitVec.ofNat 8 e.domain.code] ++ leBytes 5 e.cardBase.toNat ++ [BitVec.ofNat 8 e.sizeExp]
    ++ leBytes 5 e.memBase.toNat ++ [BitVec.ofNat 8 e.rights.code, BitVec.ofNat 8 e.delivery.code,
      (match e.meter with
       | some m => BitVec.ofNat 8 m.val
       | none => 0xFF)]

theorem windowOf_payload (i : Byte) {e : WindowEntry} (h : e.valuesOk = true) :
    windowOf (loadPayload i e) = some e.loaded := by
  obtain ⟨-, h36, -⟩ := (valuesOk_iff e).mp h
  have hsize : byteAt (loadPayload i e) 8 = e.sizeExp := byte_toNat (by omega)
  have hcard : fieldAt (loadPayload i e) 3 5 = e.cardBase.toNat := ofLe_leBytes (n := 5) e.cardBase.isLt
  have hmem : fieldAt (loadPayload i e) 9 5 = e.memBase.toNat := ofLe_leBytes (n := 5) e.memBase.isLt
  have hdomain : windowDomainOfCode (byteAt (loadPayload i e) 2) = some e.domain := windowDomainOfCode_byte e.domain
  have hrights : rightsOfCode (byteAt (loadPayload i e) 14) = some e.rights := rightsOfCode_byte e.rights
  have hdelivery : deliveryOfCode (byteAt (loadPayload i e) 15) = some e.delivery := deliveryOfCode_byte e.delivery
  have hmeter : bindingOfCode (byteAt (loadPayload i e) 16) = some e.meter := bindingOfCode_byte e.meter
  rw [windowOf, hdomain, hrights, hdelivery, hmeter]
  simp only [hsize, hcard, hmem, if_pos h36, BitVec.ofNat_toNat, BitVec.setWidth_eq]
  exact if_pos h

/-- Two windows overlap when some card address lies in both (R13). -/
theorem overlaps_iff (e f : WindowEntry) : e.overlaps f = true ↔
    ∃ a : Nat, e.cardBase.toNat ≤ a ∧ a < e.cardBase.toNat + 2 ^ e.sizeExp
      ∧ f.cardBase.toNat ≤ a ∧ a < f.cardBase.toNat + 2 ^ f.sizeExp := by
  rw [WindowEntry.overlaps, Bool.and_eq_true, decide_eq_true_iff, decide_eq_true_iff, WindowEntry.limit,
    WindowEntry.limit]
  have he := Nat.two_pow_pos e.sizeExp
  have hf := Nat.two_pow_pos f.sizeExp
  constructor
  · rintro ⟨h1, h2⟩
    rcases Nat.le_total e.cardBase.toNat f.cardBase.toNat with h | h
    · exact ⟨f.cardBase.toNat, h, h2, Nat.le_refl _, Nat.lt_add_of_pos_right hf⟩
    · exact ⟨e.cardBase.toNat, Nat.le_refl _, Nat.lt_add_of_pos_right he, h, h1⟩
  · rintro ⟨a, h1, h2, h3, h4⟩
    exact ⟨by omega, by omega⟩

theorem sharesDomain_iff (e f : WindowEntry) :
    e.sharesDomain f = true ↔ e.domain = .shared ∨ f.domain = .shared ∨ e.domain = f.domain := by
  simp only [WindowEntry.sharesDomain, Bool.or_eq_true, decide_eq_true_eq, or_assoc]

theorem conflicts_iff (e f : WindowEntry) :
    e.conflicts f = true ↔ f.state = .active ∧ e.overlaps f = true ∧ e.sharesDomain f = true := by
  simp only [WindowEntry.conflicts, Bool.and_eq_true, decide_eq_true_eq, and_assoc]

/-- The search finds the lowest index that passes. -/
theorem findIndex_eq_some_iff {α : Type} {n : Nat} (p : α → Bool) (v : Vector α n) (i : Fin n) :
    findIndex p v = some i ↔ p v[i] = true ∧ ∀ j : Fin n, p v[j] = true → i ≤ j :=
  find?_eq_some_iff_of_sorted (f := Fin.val) (List.pairwise_lt_finRange n) List.mem_finRange (fun i => p v[i]) i

theorem findIndex_eq_none_iff {α : Type} {n : Nat} (p : α → Bool) (v : Vector α n) :
    findIndex p v = none ↔ ∀ j : Fin n, p v[j] = false := by
  refine ⟨findIndex_none, fun h => ?_⟩
  cases hf : findIndex p v with
  | none => rfl
  | some j => exact absurd (findIndex_some hf) (by rw [h j]; exact Bool.false_ne_true)

/-- LOAD_WINDOW with operands in their ranges: the entry's state, then the conflicts, then the activation (R13 to R15). -/
theorem exec_loadWindow {s : State} {p : Packet} {i : Fin 64} {e : WindowEntry} (hvalues : e.valuesOk = true)
    (h : s.Asks p (loadPayload (BitVec.ofNat 8 i.val) e)) :
    exec .loadWindow s = .next
      (if (s.windows[i]).state ≠ .free then
        s.replied p .entryBusy [BitVec.ofNat 8 i.val, BitVec.ofNat 8 (s.windows[i]).state.code]
      else match findIndex (WindowEntry.conflicts e.loaded) s.windows with
        | some j => s.replied p .overlap [BitVec.ofNat 8 i.val, BitVec.ofNat 8 j.val]
        | none => missTrigger ((s.replied p .ok [BitVec.ofNat 8 i.val, 0xFF]).setWindow i e.loaded)) := by
  have htaken := exec_of_asks (row := .loadWindow) h rfl
  have hi : indexOf 64 (byteAt p.payload 1) = some i := by rw [h.payload]; exact indexOf_byte i
  have he : windowOf p.payload = some e.loaded := by rw [h.payload]; exact windowOf_payload _ hvalues
  rw [MgmtRow.body, mgmtLoadWindow, withLength_right (by rw [h.payload]; rfl), hi, he] at htaken
  simp only [takeFromC_windows, reply_setWindow] at htaken
  exact htaken

/-- Settles O47: `exec_loadWindow`, with the lowest conflicting entry by `findIndex_eq_some_iff`. -/
theorem loadWindowActivatesAFreeEntryThatOverlapsNone : Obligations.LoadWindowActivatesAFreeEntryThatOverlapsNone := by
  intro s p i e hvalues h conflicts
  have hconflicts : ∀ j : Fin 64, e.loaded.conflicts s.windows[j] = true ↔ conflicts j := fun j => by
    rw [conflicts_iff, overlaps_iff, sharesDomain_iff]
    rfl
  have hexec := exec_loadWindow hvalues h
  refine ⟨fun hbusy => ?_, fun j hfree hj hlowest => ?_, fun hfree hnone => ?_⟩
  · rw [hexec, if_pos hbusy]
  · have hfind : findIndex (WindowEntry.conflicts e.loaded) s.windows = some j :=
      (findIndex_eq_some_iff _ _ j).mpr ⟨(hconflicts j).mpr hj, fun j' hj' => hlowest j' ((hconflicts j').mp hj')⟩
    rw [hexec, if_neg (not_not.mpr hfree), hfind]
  · have hfind : findIndex (WindowEntry.conflicts e.loaded) s.windows = none :=
      (findIndex_eq_none_iff _ _).mpr fun j => Bool.eq_false_iff.mpr ((hconflicts j).not.mpr (hnone j))
    rw [hexec, if_neg (not_not.mpr hfree), hfind]
    simp only [State.setWindow, State.setWindows, replied_windows, WindowEntry.loaded]

/-! ## RETIRE -/

/-- The entries of a list are retired, and nothing else changes (R21). -/
theorem foldl_retireEntryAt {l : List (Fin 64)} (hnodup : l.Nodup) (s : State) :
    l.foldl retireEntryAt s = s.setWindows (l.foldl retireEntryAt s).windows ∧
      ∀ j : Fin 64, (l.foldl retireEntryAt s).windows[j] = if j ∈ l then (s.windows[j]).retired else s.windows[j] := by
  induction l generalizing s with
  | nil => exact ⟨rfl, fun j => rfl⟩
  | cons i l ih =>
    obtain ⟨hi, hl⟩ := List.nodup_cons.mp hnodup
    obtain ⟨hframe, hwindows⟩ := ih hl (retireEntryAt s i)
    refine ⟨hframe, fun j => ?_⟩
    rw [List.foldl_cons, hwindows]
    have hone : (retireEntryAt s i).windows[j] = if j = i then (s.windows[i]).retired else s.windows[j] :=
      setAt_get _ _ _ _
    rw [hone]
    by_cases hj : j = i
    · subst hj
      simp [hi]
    · simp [hj]

theorem mem_activeEntries {s : State} {sel : WindowEntry → Bool} {i : Fin 64} :
    i ∈ activeEntries s sel ↔ (s.windows[i]).state = .active ∧ sel s.windows[i] = true := by
  simp only [activeEntries, List.mem_filter, List.mem_finRange, true_and, Bool.and_eq_true, beq_iff_eq]

theorem activeEntries_nodup (s : State) (sel : WindowEntry → Bool) : (activeEntries s sel).Nodup :=
  (List.nodup_finRange 64).filter _

theorem activeEntries_length (s : State) (sel : WindowEntry → Bool) :
    (activeEntries s sel).length = countTable (fun e => decide (e.state = .active) && sel e) s.windows := by
  rw [countTable_eq, List.countP_eq_length_filter]
  rfl

/-- The retirement of some distinct ACTIVE entries: the reply at once, or the long operation (R21, R22). -/
theorem retireSelected_eq {l : List (Fin 64)} (hnodup : l.Nodup) (widened : Bool) (p : Packet) (s : State) :
    retireSelected l widened p (takeFromC s) =
      if ∃ i ∈ l, (s.windows[i]).inFlight ≠ 0 then
        ((takeFromC s).setWindows (l.foldl retireEntryAt (takeFromC s)).windows).setLongOp
          (.retire p.source p.tag l.length widened)
      else (s.replied p .ok [BitVec.ofNat 8 l.length, flagByte widened]).setWindows
        (l.foldl retireEntryAt (takeFromC s)).windows := by
  obtain ⟨hframe, -⟩ := foldl_retireEntryAt hnodup (takeFromC s)
  have hany : (l.any fun i => ((takeFromC s).windows[i]).inFlight != 0) = true ↔ ∃ i ∈ l, (s.windows[i]).inFlight ≠ 0 := by
    simp only [List.any_eq_true, bne_iff_ne, takeFromC_windows]
  unfold retireSelected
  dsimp only
  rw [hframe]
  by_cases hflight : ∃ i ∈ l, (s.windows[i]).inFlight ≠ 0
  · rw [if_pos hflight, if_pos (hany.mpr hflight)]
    rfl
  · rw [if_neg hflight, if_neg (hany.not.mpr hflight), State.replied, reply_eq, reply_eq]
    rfl

/-- What RETIRE does to the entries that a test selects (R20 to R22). -/
theorem retireOutcome_of_selected (s : State) (p : Packet) (sel : WindowEntry → Bool) (widened : Bool) :
    RetireOutcome s p sel widened (retireSelected (activeEntries (takeFromC s) sel) widened p (takeFromC s)) := by
  have hnodup := activeEntries_nodup (takeFromC s) sel
  have heq := retireSelected_eq hnodup widened p s
  obtain ⟨-, hwindows⟩ := foldl_retireEntryAt hnodup (takeFromC s)
  have hlength := activeEntries_length (takeFromC s) sel
  have hflight : (∃ i ∈ activeEntries (takeFromC s) sel, (s.windows[i]).inFlight ≠ 0) ↔
      ∃ j : Fin 64, (s.windows[j]).state = .active ∧ sel s.windows[j] = true ∧ (s.windows[j]).inFlight ≠ 0 := by
    simp only [mem_activeEntries, takeFromC_windows, and_assoc]
  rw [hlength, takeFromC_windows] at heq
  have htable : (retireSelected (activeEntries (takeFromC s) sel) widened p (takeFromC s)).windows
      = ((activeEntries (takeFromC s) sel).foldl retireEntryAt (takeFromC s)).windows := by
    rw [heq]
    split <;> rfl
  refine ⟨fun j => ?_, fun hnone => ?_, fun hsome => ?_⟩
  · rw [htable, hwindows]
    simp only [mem_activeEntries]
    rfl
  · rw [htable, heq, if_neg]
    · rfl
    · rw [hflight]
      rintro ⟨j, hactive, hsel, hflying⟩
      exact hflying (hnone j hactive hsel)
  · rw [htable, heq, if_pos (hflight.mpr hsome)]
    rfl

/-- The window of the entry has an address outside the range (R22). -/
theorem beyond_iff (base length : Nat) (e : WindowEntry) : e.beyond base length = true ↔
    e.cardBase.toNat < base ∨ base + length < e.cardBase.toNat + 2 ^ e.sizeExp := by
  rw [WindowEntry.beyond, Bool.or_eq_true, decide_eq_true_iff, decide_eq_true_iff, WindowEntry.limit]

/-- The operands of RETIRE (R156). -/
def retirePayload (scope index domain : Byte) (base length : Nat) : List Byte :=
  [0x09, scope, index, domain] ++ leBytes 5 base ++ leBytes 6 length

/-- A RETIRE of a row's own scope, with no long operation in progress, passes the common checks (R144, R19). -/
theorem retireChecked_of_asks {s : State} {p : Packet} {scope index domain : Byte} {base length : Nat}
    (h : s.Asks p (retirePayload scope index domain base length)) (f : State → State) :
    retireChecked p (takeFromC s) f =
      if s.longOp = .idle then f (takeFromC s) else s.replied p .busy [] := by
  rw [retireChecked, withLength_right (by rw [h.payload]; rfl)]
  rfl

/-- Settles O49: the operands read back, `retireSelected_eq` for one entry and `retireOutcome_of_selected` for the other
scopes. -/
theorem retireSelectsByScopeAndFreesOrDrains : Obligations.RetireSelectsByScopeAndFreesOrDrains := by
  intro s p index domain base length hbase hlength payload
  refine ⟨fun row scope hmem h hlong => ?_, fun i h hidle hindex => ?_, fun d h hidle hd hpos hend => ?_,
    fun d h hidle hd => ?_, fun h hidle => ?_⟩
  · have hbusy {c : Byte} (h : s.Asks p (payload c)) (f : State → State) :
        retireChecked p (takeFromC s) f = s.replied p .busy [] := by
      rw [retireChecked_of_asks h, if_neg hlong]
    simp only [List.mem_cons, Prod.mk.injEq, List.not_mem_nil, or_false] at hmem
    have hrow : mreqRow (payload scope) = row := by
      rcases hmem with ⟨rfl, rfl⟩ | ⟨rfl, rfl⟩ | ⟨rfl, rfl⟩ | ⟨rfl, rfl⟩ <;> rfl
    rw [exec_of_asks h hrow]
    rcases hmem with ⟨rfl, rfl⟩ | ⟨rfl, rfl⟩ | ⟨rfl, rfl⟩ | ⟨rfl, rfl⟩
    · rw [MgmtRow.body, mgmtRetireEntry, hbusy h]
    · rw [MgmtRow.body, mgmtRetireRange, hbusy h]
    · rw [MgmtRow.body, mgmtRetireDomain, hbusy h]
    · rw [MgmtRow.body, mgmtRetireAll, hbusy h]
  · have hi : indexOf 64 (byteAt p.payload 2) = some i := by
      rw [h.payload]
      show indexOf 64 index.toNat = some i
      rw [hindex, indexOf_byte]
    have hscope : byteAt p.payload 1 = 0 := by rw [h.payload]; rfl
    have hexec : exec .retireEntry s = .next (if (s.windows[i]).state = .active then
        retireSelected [i] false p (takeFromC s) else s.replied p .notActive [0, 0]) := by
      have htaken := exec_of_asks (row := .retireEntry) h rfl
      rw [MgmtRow.body, mgmtRetireEntry, retireChecked_of_asks h, if_pos hidle, hi] at htaken
      exact htaken.trans (congrArg Host.Outcome.next (if_neg (not_not.mpr hscope)))
    have hone : ([i].foldl retireEntryAt (takeFromC s)).windows = setAt s.windows i (s.windows[i]).retired := rfl
    refine ⟨fun hstate => ?_, fun hactive hnone => ?_, fun hactive hflying => ?_⟩
    · rw [hexec, if_neg hstate]
    · rw [hexec, if_pos hactive, retireSelected_eq (List.nodup_singleton i), if_neg (by simpa using hnone), hone,
        WindowEntry.retired, if_pos hnone]
      rfl
    · rw [hexec, if_pos hactive, retireSelected_eq (List.nodup_singleton i), if_pos (by simpa using hflying), hone,
        WindowEntry.retired, if_neg hflying]
      rfl
  · intro sel widened
    have hbase' : fieldAt p.payload 4 5 = base := by
      rw [h.payload]
      exact ofLe_leBytes (n := 5) (by omega)
    have hlength' : fieldAt p.payload 9 6 = length := by
      rw [h.payload]
      exact ofLe_leBytes (n := 6) (by omega)
    have hdomain : windowDomainOfCode (byteAt p.payload 3) = some d := by
      rw [h.payload]
      show windowDomainOfCode domain.toNat = some d
      rw [hd, windowDomainOfCode_byte]
    have hwidened : ((activeEntries (takeFromC s) (WindowEntry.inRange d base length)).any fun i =>
        ((takeFromC s).windows[i]).beyond base length) = widened := by
      rw [Bool.eq_iff_iff, List.any_eq_true, decide_eq_true_iff]
      simp only [mem_activeEntries, takeFromC_windows, and_assoc, beyond_iff]
      rfl
    have htaken := exec_of_asks (row := .retireRange) h rfl
    rw [MgmtRow.body, mgmtRetireRange, retireChecked_of_asks h, if_pos hidle] at htaken
    simp only [hbase', hlength', hdomain, if_neg (show ¬(length = 0 ∨ 2 ^ 40 < base + length) by omega)] at htaken
    rw [hwidened] at htaken
    exact ⟨_, htaken, retireOutcome_of_selected s p (WindowEntry.inRange d base length) widened⟩
  · have hdomain : indexOf 16 (byteAt p.payload 3) = some d := by
      rw [h.payload]
      show indexOf 16 domain.toNat = some d
      rw [hd, indexOf_byte_of_le (by decide)]
    have htaken := exec_of_asks (row := .retireDomain) h rfl
    rw [MgmtRow.body, mgmtRetireDomain, retireChecked_of_asks h, if_pos hidle, hdomain] at htaken
    exact ⟨_, htaken, retireOutcome_of_selected s p _ false⟩
  · have htaken := exec_of_asks (row := .retireAll) h rfl
    rw [MgmtRow.body, mgmtRetireAll, retireChecked_of_asks h, if_pos hidle] at htaken
    exact ⟨_, htaken, retireOutcome_of_selected s p _ false⟩

/-! ## PORT_STATUS -/

/-- Settles O52: the bytes of the port named, and the reply placed after its indications are cleared. -/
theorem portStatusReportsAndClearsTheIndications : Obligations.PortStatusReportsAndClearsTheIndications := by
  intro q s p code h x clear u
  have hport : portOfCode (byteAt p.payload 1) = some q := by
    rw [h.payload]
    cases q <;> rfl
  have hbyte : leBytes 1 (byteAt p.payload 1) = [code] := by
    rw [h.payload]
    cases q <;> rfl
  have htaken : exec .portStatus s = .next (mgmtPortStatus p (takeFromC s)) := exec_of_asks (row := .portStatus) h rfl
  rw [mgmtPortStatus, withLength_right (by rw [h.payload]; rfl), hport] at htaken
  refine htaken.trans (congrArg (fun l => Host.Outcome.next (reply p .ok l u)) ?_)
  rw [hbyte]
  show [code] ++ x.bytes = _
  rw [PortState.bytes]
  cases x.negotiated <;> rfl

end Sys2Proof.Machine
end

section
/-! The admission path (R40 to R58): the steps of each mode, what a forwarded request changes, and what a request that
is not forwarded leaves. -/

namespace Sys2Proof.Machine

/-! ## What the steps test -/

theorem mUp_iff (s : State) : s.mUp = true ↔ s.mPort.training = .up := isUp_iff s.mPort

theorem mUp_of_up {s : State} (h : s.mPort.training = .up) : s.mUp = true := (mUp_iff s).mpr h

theorem mUp_of_not_up {s : State} (h : s.mPort.training ≠ .up) : s.mUp = false := isUp_of_not_up h

theorem rightsGrant_iff (e : WindowEntry) (c : SourceClass) (k : ReqKind) :
    rightsGrant e c k = true ↔ e.rights.Grant c k := by
  cases k <;> cases c <;> simp [rightsGrant, Rights.Grant]

theorem oversize_iff (s : State) (n : Nat) :
    oversize s n = true ↔ s.mPort.training = .up ∧ ∃ p, s.mPort.negotiated = some p ∧ p < n := by
  unfold oversize
  cases s.mPort.negotiated with
  | none => simp
  | some p => simp [mUp_iff]

theorem oversize_eq_false {s : State} {n : Nat}
    (h : s.mPort.training = .up → ∀ p, s.mPort.negotiated = some p → n ≤ p) : oversize s n = false := by
  rw [← Bool.not_eq_true, oversize_iff]
  rintro ⟨hup, p, hp, hlarge⟩
  exact Nat.not_le_of_lt hlarge (h hup p hp)

theorem slotOffered_iff (s : State) : s.slotOffered = true ↔ s.freeList ≠ [] ∧ s.holdList = [] := by
  simp [State.slotOffered]

theorem resourcesAtHand_iff (s : State) (k : Option SlotKind) : resourcesAtHand s k = true ↔
    s.mPort.tx.length < 16 ∧ (k ≠ none → s.freeList ≠ [] ∧ s.holdList = []) := by
  rw [resourcesAtHand, Bool.and_eq_true, Bool.or_eq_true, slotOffered_iff, State.mPlaceFree, decide_eq_true_iff]
  cases k <;> simp [capacity]

theorem not_resourcesAtHand_iff (s : State) (k : Option SlotKind) : (!resourcesAtHand s k) = true ↔
    16 ≤ s.mPort.tx.length ∨ (k ≠ none ∧ (s.freeList = [] ∨ s.holdList ≠ [])) := by
  rw [Bool.not_eq_true', ← Bool.not_eq_true, resourcesAtHand_iff]
  by_cases hk : k = none <;> by_cases hlist : s.freeList = [] <;> simp [hk, hlist, Decidable.imp_iff_not_or]

/-- A slot is taken for a READ or WRITE, and for a POST through a CONFIRMED window (R45). -/
theorem slotKindFor_window_ne_none (e : WindowEntry) (k : ReqKind) :
    slotKindFor (some e) k ≠ none ↔ k ≠ .post ∨ e.delivery = .confirmed := by
  cases k <;> simp [slotKindFor]

theorem slotKindFor_open_ne_none (k : ReqKind) : slotKindFor none k ≠ none ↔ k ≠ .post := by
  cases k <;> simp [slotKindFor]

/-- The charge of a meter is the cost of its basis (R114). -/
theorem cost_eq (x : Meter) (n : Nat) : x.cost n = x.basis.costOf n := rfl

/-! ## The steps in order -/

/-- Steps 8 to 10 of the GUARD path (R52, R45, R53). -/
theorem judgeUnmetered_eq (s : State) (r : Request) (i : Fin 64) : judgeUnmetered s r i =
    if s.mPort.training ≠ .up then .refuse .targetLost (requestFault .targetLost .nowhere r)
    else if 16 ≤ s.mPort.tx.length
        ∨ ((r.kind ≠ .post ∨ (s.windows[i]).delivery = .confirmed) ∧ (s.freeList = [] ∨ s.holdList ≠ [])) then
      .park .slot none
    else .forward (some i) := by
  unfold judgeUnmetered
  simp only [not_resourcesAtHand_iff, slotKindFor_window_ne_none]
  by_cases hup : s.mPort.training = .up
  · rw [mUp_of_up hup, if_neg (not_not.mpr hup)]
    rfl
  · rw [mUp_of_not_up hup, if_pos hup]
    rfl

/-- The OPEN path behind its BEHIND step (R46). -/
theorem judgeOpen_of_fits {s : State} {r : Request} (hfits : oversize s r.length = false) : judgeOpen s r false =
    if 16 ≤ s.mPort.tx.length ∨ (r.kind ≠ .post ∧ (s.freeList = [] ∨ s.holdList ≠ [])) then .park .slot none
    else if s.mPort.training ≠ .up then .refuse .targetLost (requestFault .targetLost .nowhere r)
    else .forward none := by
  unfold judgeOpen
  simp only [Bool.false_eq_true, if_false, hfits, not_resourcesAtHand_iff, slotKindFor_open_ne_none]
  by_cases hup : s.mPort.training = .up
  · rw [mUp_of_up hup]
    simp [hup]
  · rw [mUp_of_not_up hup]
    simp [hup]

theorem judge_of_guard {s : State} (h : s.mode = .guardMode) (r : Request) (behind : Bool) :
    judge s r behind = judgeGuard s r behind := by rw [judge, h]

theorem judge_of_open {s : State} (h : s.mode = .openMode) (r : Request) (behind : Bool) :
    judge s r behind = judgeOpen s r behind := by rw [judge, h]

theorem judge_of_shut {s : State} (h : s.mode = .shutMode) (r : Request) (behind : Bool) :
    judge s r behind = .refuse .refused (requestFault .shutRefused .nowhere r) := by rw [judge, h]

/-- The GUARD path of a known source that finds its window: crossing, rights, then the window's steps (R48 to R50). -/
theorem judgeGuard_of_found {s : State} {r : Request} {i : Fin 64}
    (hvalid : (s.domains[sourceIndex r.source]).valid = true)
    (hfound : lookup s (s.domains[sourceIndex r.source]).domain r.address = some i) :
    judgeGuard s r false =
      if (s.windows[i]).cardBase.toNat + 2 ^ (s.windows[i]).sizeExp < r.address.toNat + r.length then
        .refuse .denied (requestFault .crossing (.window i) r)
      else if !rightsGrant s.windows[i] (s.domains[sourceIndex r.source]).sourceClass r.kind then
        .refuse .denied (requestFault .rights (.window i) r)
      else judgeWindowed s r i := by
  simp only [judgeGuard, hvalid, hfound, Bool.not_true, Bool.false_eq_true, if_false]
  rfl

/-- The comparison of a running meter (R51, R117). -/
theorem verdict_of_running {x : Meter} (h : x.state = .running) (n : Nat) : x.verdict n =
    if x.budget < x.basis.costOf n then .refuse
    else if x.used + x.basis.costOf n ≤ x.budget then .pass
    else if x.action = .hold then .hold else .refuse := by
  simp only [Meter.verdict, h, cost_eq]
  cases x.action <;> rfl

theorem verdict_of_stopped {x : Meter} (h : x.state = .stopped) (n : Nat) : x.verdict n = .pass := by
  simp only [Meter.verdict, h]

/-- The meter step for a window with a meter that runs (R51). -/
theorem judgeWindowed_of_running {s : State} {r : Request} {i : Fin 64} {m : Fin 4}
    (hfits : oversize s r.length = false) (hmeter : (s.windows[i]).meter = some m)
    (hrunning : (s.meters[m]).state = .running) : judgeWindowed s r i =
      if (s.meters[m]).budget < (s.meters[m]).basis.costOf r.length then
        .refuse .busy (requestFault .meterRefused (.window i) r)
      else if (s.meters[m]).used + (s.meters[m]).basis.costOf r.length ≤ (s.meters[m]).budget then judgeUnmetered s r i
      else if (s.meters[m]).action = .hold then .park (.meter m) none
      else .refuse .busy (requestFault .meterRefused (.window i) r) := by
  simp only [judgeWindowed, hfits, hmeter, verdict_of_running hrunning, Bool.false_eq_true, if_false]
  by_cases hover : (s.meters[m]).budget < (s.meters[m]).basis.costOf r.length
  · simp only [if_pos hover]
  · by_cases hpass : (s.meters[m]).used + (s.meters[m]).basis.costOf r.length ≤ (s.meters[m]).budget
    · simp only [if_neg hover, if_pos hpass]
    · by_cases hhold : (s.meters[m]).action = .hold
      · simp only [if_neg hover, if_neg hpass, if_pos hhold]
      · simp only [if_neg hover, if_neg hpass, if_neg hhold]

/-- The meter step for a window whose meter is stopped or absent (R51). -/
theorem judgeWindowed_of_no_meter {s : State} {r : Request} {i : Fin 64} (hfits : oversize s r.length = false)
    (hmeter : ∀ m, (s.windows[i]).meter = some m → (s.meters[m]).state = .stopped) :
    judgeWindowed s r i = judgeUnmetered s r i := by
  simp only [judgeWindowed, hfits, Bool.false_eq_true, if_false]
  cases hm : (s.windows[i]).meter with
  | none => rfl
  | some m => simp only [verdict_of_stopped (hmeter m hm)]

/-- Settles O23: the steps of each mode by the lemmas above, each with the steps before it passed. -/
theorem theAdmissionPathsStepsDecideInOrder : Obligations.TheAdmissionPathsStepsDecideInOrder := by
  constructor
  · intro s r behind hmode hdisjoint d fault page
    rw [judge_of_guard hmode]
    refine ⟨fun hunknown => ?_, fun hvalid hbehind => ?_, fun hvalid hbehind hmiss => ?_, ?_⟩
    · simp only [judgeGuard, show (s.domains[sourceIndex r.source]).valid = false from hunknown]
      rfl
    · simp only [judgeGuard, show (s.domains[sourceIndex r.source]).valid = true from hvalid, hbehind]
      rfl
    · have hlookup : lookup s d.domain r.address = none := lookup_of_no_match hmiss
      subst hbehind
      simp only [judgeGuard, show (s.domains[sourceIndex r.source]).valid = true from hvalid,
        show lookup s (s.domains[sourceIndex r.source]).domain r.address = none from hlookup]
      refine ⟨fun hpolicy => ?_, fun hpolicy => ?_⟩ <;>
        simp only [show (s.domains[sourceIndex r.source]).missPolicy = _ from hpolicy] <;> rfl
    · intro i hvalid hbehind hmatch e limit last
      subst hbehind
      have hfound := judgeGuard_of_found (r := r) hvalid (lookup_of_matches hdisjoint hmatch)
      have hgrant := rightsGrant_iff e d.sourceClass r.kind
      have hlast : judgeUnmetered s r i = last := judgeUnmetered_eq s r i
      refine ⟨fun hcross => ?_, fun hwhole hdenied => ?_, fun n hwhole hgranted hup hn hlarge => ?_,
        fun hwhole hgranted hfits => ?_⟩
      · rw [hfound, if_pos hcross]
        rfl
      · rw [hfound, if_neg (Nat.not_lt_of_le hwhole), if_pos]
        · rfl
        · rw [Bool.not_eq_true', ← Bool.not_eq_true]
          exact hgrant.not.mpr hdenied
      · rw [hfound, if_neg (Nat.not_lt_of_le hwhole), if_neg, judgeWindowed,
          if_pos ((oversize_iff s r.length).mpr ⟨hup, n, hn, hlarge⟩)]
        · rfl
        · rw [show rightsGrant s.windows[i] (s.domains[sourceIndex r.source]).sourceClass r.kind = true from
            hgrant.mpr hgranted]
          exact Bool.false_ne_true
      · have hpassed : judgeGuard s r false = judgeWindowed s r i := by
          rw [hfound, if_neg (Nat.not_lt_of_le hwhole), if_neg]
          rw [show rightsGrant s.windows[i] (s.domains[sourceIndex r.source]).sourceClass r.kind = true from
            hgrant.mpr hgranted]
          exact Bool.false_ne_true
        have hfits' := oversize_eq_false hfits
        rw [hpassed]
        refine ⟨fun hnone => ?_, fun m hm hstopped => ?_, fun m hm hrunning => ?_⟩
        · rw [judgeWindowed_of_no_meter hfits' fun m hm => absurd (hnone.symm.trans hm) (by simp), hlast]
        · rw [judgeWindowed_of_no_meter hfits' fun m' hm' => ?_, hlast]
          obtain rfl : m' = m := Option.some.inj (hm'.symm.trans hm)
          exact hstopped
        · rw [judgeWindowed_of_running hfits' hm hrunning, hlast]
          rfl
  · intro s r behind fault page
    refine ⟨fun hshut => judge_of_shut hshut r behind, fun hopen hbehind => ?_,
      fun n hopen hbehind hup hn hlarge => ?_, fun hopen hbehind hfits => ?_⟩
    · rw [judge_of_open hopen, judgeOpen, if_pos hbehind]
    · rw [judge_of_open hopen, judgeOpen, if_neg (by rw [hbehind]; exact Bool.false_ne_true),
        if_pos ((oversize_iff s r.length).mpr ⟨hup, n, hn, hlarge⟩)]
      rfl
    · subst hbehind
      rw [judge_of_open hopen, judgeOpen_of_fits (oversize_eq_false hfits)]
      rfl

/-! ## Forwarding -/

/-- The meters with the charge of a request through an entry (R53 step 1). -/
def State.chargedMeters (s : State) (e : WindowEntry) (length : Nat) : Vector Meter 4 :=
  match e.meter with
  | none => s.meters
  | some m =>
    if (s.meters[m]).state = .running then
      setAt s.meters m { s.meters[m] with used := (s.meters[m]).used + (s.meters[m]).basis.costOf length }
    else s.meters

theorem chargeMeter_eq (e : WindowEntry) (length : Nat) (s : State) :
    chargeMeter e length s = s.setMeters (s.chargedMeters e length) := by
  unfold chargeMeter State.chargedMeters
  cases e.meter with
  | none => rfl
  | some m =>
    by_cases hrunning : (s.meters[m]).state = .running
    · simp only [if_pos hrunning]
      rfl
    · simp only [if_neg hrunning]
      rfl

/-- Of two writes of one record of a table the second stands. -/
theorem setAt_setAt {α : Type} {n : Nat} (v : Vector α n) (i : Fin n) (x y : α) :
    setAt (setAt v i x) i y = setAt v i y := Vector.set_set ..

/-- A request forwarded through a window that takes a slot (R53). -/
theorem forwardRequest_window_slot {s : State} {r : Request} {i : Fin 64} {k : SlotKind} {f : Fin 32}
    {rest : List (Fin 32)} (hk : slotKindFor (some s.windows[i]) r.kind = some k) (hfree : s.freeList = f :: rest) :
    forwardRequest (some i) r s =
      { s with
        meters := s.chargedMeters s.windows[i] r.length
        slots := setAt s.slots f
          (allocatedSlot s.slots[f] k (some i) r (s.tick + BitVec.ofNat 32 s.answerTimeout))
        freeList := rest
        windows := setAt s.windows i
          { s.windows[i] with
            inFlight := (s.windows[i]).inFlight + 1, admissions := (s.windows[i]).admissions + 1 }
        mPort := s.mPort.enqueue
          (forwardPacket (some k) r (downstreamTag (s.slots[f]).generation f) ((s.windows[i]).translate r.address)) } := by
  simp only [forwardRequest, Option.map_some, hk, chargeMeter_eq, takeSlot, hfree,
    countAdmission, State.setWindow, State.setWindows, State.setFreeList, State.setSlot, State.setSlots,
    State.setMeters, State.setMPort, setAt_get_same, setAt_setAt]

/-- A POST forwarded through a window, which takes no slot (R53, R58). -/
theorem forwardRequest_window_post {s : State} {r : Request} {i : Fin 64}
    (hk : slotKindFor (some s.windows[i]) r.kind = none) :
    forwardRequest (some i) r s =
      { s with
        meters := s.chargedMeters s.windows[i] r.length
        windows := setAt s.windows i { s.windows[i] with admissions := (s.windows[i]).admissions + 1 }
        mPort := s.mPort.enqueue (forwardPacket none r 0 ((s.windows[i]).translate r.address)) } := by
  simp only [forwardRequest, Option.map_some, hk, chargeMeter_eq, takeSlot, countAdmission, State.setWindow,
    State.setWindows, State.setMeters, State.setMPort]

/-- A request forwarded in OPEN mode that takes a slot (R46). -/
theorem forwardRequest_open_slot {s : State} {r : Request} {k : SlotKind} {f : Fin 32} {rest : List (Fin 32)}
    (hk : slotKindFor none r.kind = some k) (hfree : s.freeList = f :: rest) :
    forwardRequest none r s =
      { s with
        slots := setAt s.slots f
          (allocatedSlot s.slots[f] k none r (s.tick + BitVec.ofNat 32 s.answerTimeout))
        freeList := rest
        mPort := s.mPort.enqueue
          (forwardPacket (some k) r (downstreamTag (s.slots[f]).generation f) r.address) } := by
  simp only [forwardRequest, Option.map_none, hk, takeSlot, hfree, countAdmission, State.setFreeList, State.setSlot,
    State.setSlots, State.setMPort]

/-- A POST forwarded in OPEN mode (R46). -/
theorem forwardRequest_open_post {s : State} {r : Request} (hk : slotKindFor none r.kind = none) :
    forwardRequest none r s = { s with mPort := s.mPort.enqueue (forwardPacket none r 0 r.address) } := by
  simp only [forwardRequest, Option.map_none, hk, takeSlot, countAdmission, State.setMPort]

theorem hasItemOf_iff (src : SourceId) (l : List ParkItem) :
    hasItemOf src l = true ↔ ∃ it ∈ l, it.req.source = src := by
  simp only [hasItemOf, List.any_eq_true, beq_iff_eq]

theorem hasItemOf_eq_false {src : SourceId} {l : List ParkItem} (h : ∀ it ∈ l, it.req.source ≠ src) :
    hasItemOf src l = false := by
  rw [← Bool.not_eq_true, hasItemOf_iff]
  rintro ⟨it, hit, hsrc⟩
  exact h it hit hsrc

/-- A request that every step of the GUARD path passes, and its slot if it needs one, is forwarded. -/
theorem judge_of_admitsGuard {s : State} {r : Request} {i : Fin 64} (hdisjoint : s.DisjointLaw)
    (h : s.AdmitsGuard r i)
    (hslot : r.kind ≠ .post ∨ (s.windows[i]).delivery = .confirmed → s.freeList ≠ [] ∧ s.holdList = []) :
    judge s r false = .forward (some i) := by
  have hgrant := (rightsGrant_iff s.windows[i] _ r.kind).mpr h.granted
  have hfits : oversize s r.length = false := oversize_eq_false fun _ => h.fits
  have hlast : judgeUnmetered s r i = .forward (some i) := by
    rw [judgeUnmetered_eq, if_neg (not_not.mpr h.up), if_neg]
    rintro (hfull | ⟨hneeds, hnone⟩)
    · exact Nat.not_le_of_lt h.place hfull
    · exact hnone.elim (hslot hneeds).1 fun hheld => hheld (hslot hneeds).2
  have hmeter : judgeWindowed s r i = judgeUnmetered s r i := by
    cases hm : (s.windows[i]).meter with
    | none => exact judgeWindowed_of_no_meter hfits fun m hm' => absurd (hm.symm.trans hm') (by simp)
    | some m =>
      cases hstate : (s.meters[m]).state with
      | stopped =>
        refine judgeWindowed_of_no_meter hfits fun m' hm' => ?_
        obtain rfl : m' = m := Option.some.inj (hm'.symm.trans hm)
        exact hstate
      | running =>
        have hbudget := h.budget m hm hstate
        rw [judgeWindowed_of_running hfits hm hstate, if_neg (by omega), if_pos hbudget]
  rw [judge_of_guard h.mode, judgeGuard_of_found h.known (lookup_of_matches hdisjoint h.found),
    if_neg (Nat.not_lt_of_le h.whole), hgrant, hmeter, hlast]
  rfl

/-- A request that every step of the OPEN path passes, and its slot if it needs one, is forwarded. -/
theorem judge_of_admitsOpen {s : State} {r : Request} (h : s.AdmitsOpen r)
    (hslot : r.kind ≠ .post → s.freeList ≠ [] ∧ s.holdList = []) : judge s r false = .forward none := by
  rw [judge_of_open h.mode, judgeOpen_of_fits (oversize_eq_false fun _ => h.fits), if_neg, if_neg (not_not.mpr h.up)]
  rintro (hfull | ⟨hneeds, hnone⟩)
  · exact Nat.not_le_of_lt h.place hfull
  · exact hnone.elim (hslot hneeds).1 fun hheld => hheld (hslot hneeds).2

/-- The command of a data request runs the admission path on the state after the taking. -/
theorem exec_request {s : State} {p : Packet} {k : ReqKind} (h : s.Takes p) (hkind : p.kind = k.packetKind) :
    exec k.command s = .next (runFresh (requestOf k p) (takeFromC s)) := by
  cases k with
  | read => exact takeRequest_of_takes h hkind
  | write => exact takeRequest_of_takes h hkind
  | post => exact takeRequest_of_takes h hkind

theorem exec_of_forward {s : State} {p : Packet} {k : ReqKind} {w : Option (Fin 64)} (h : s.Takes p)
    (hkind : p.kind = k.packetKind) (hfirst : ∀ it ∈ s.park, it.req.source ≠ p.source)
    (hjudge : judge (takeFromC s) (requestOf k p) false = .forward w) :
    exec k.command s = .next (forwardRequest w (requestOf k p) (takeFromC s)) := by
  have hnone : hasItemOf (requestOf k p).source (takeFromC s).park = false := hasItemOf_eq_false hfirst
  rw [exec_request h hkind, runFresh, hnone, hjudge]

theorem admitsGuard_takeFromC {s : State} {r : Request} {i : Fin 64} (h : s.AdmitsGuard r i) :
    (takeFromC s).AdmitsGuard r i := by
  obtain ⟨mode, known, first, found, whole, granted, fits, budget, up, place⟩ := h
  exact ⟨mode, known, first, found, whole, granted, fits, budget, up, place⟩

theorem admitsOpen_takeFromC {s : State} {r : Request} (h : s.AdmitsOpen r) : (takeFromC s).AdmitsOpen r := by
  obtain ⟨mode, first, fits, up, place⟩ := h
  exact ⟨mode, first, fits, up, place⟩

/-- Settles O24: `judge_of_admitsGuard` decides, and the forwarding is written out with and without a slot. -/
theorem aGuardForwardIsChargedCountedAndSentTranslated : Obligations.AGuardForwardIsChargedCountedAndSentTranslated := by
  refine ⟨fun k s p i f rest hdisjoint htakes hkind hadmits hconfirmed hfree hheld => ?_,
    fun s p i hdisjoint htakes hkind hadmits hsent => ?_⟩
  · have hoffered : (takeFromC s).freeList ≠ [] ∧ (takeFromC s).holdList = [] :=
      ⟨by rw [show (takeFromC s).freeList = s.freeList from rfl, hfree]; simp, hheld⟩
    have hjudge := judge_of_admitsGuard (s := takeFromC s) hdisjoint (admitsGuard_takeFromC hadmits) fun _ => hoffered
    have hexec := exec_of_forward htakes hkind hadmits.first hjudge
    cases k with
    | read => exact hexec.trans (congrArg _ (forwardRequest_window_slot (s := takeFromC s) (k := .read) rfl hfree))
    | write => exact hexec.trans (congrArg _ (forwardRequest_window_slot (s := takeFromC s) (k := .write) rfl hfree))
    | post =>
      exact hexec.trans (congrArg _
        (forwardRequest_window_slot (s := takeFromC s) (k := .confirm) (if_pos (hconfirmed rfl)) hfree))
  · have hjudge := judge_of_admitsGuard (s := takeFromC s) hdisjoint (admitsGuard_takeFromC hadmits) fun hneeds =>
      hneeds.elim (absurd rfl) fun hconfirmed => absurd (hsent.symm.trans hconfirmed) (by decide)
    have hexec := exec_of_forward (k := .post) htakes hkind hadmits.first hjudge
    have hnone : slotKindFor (some (takeFromC s).windows[i]) .post = none :=
      if_neg (by rw [takeFromC_windows, hsent]; decide)
    exact hexec.trans (congrArg _ (forwardRequest_window_post hnone))

/-- Settles O25: `judge_of_admitsOpen` decides, and the forwarding is written out with and without a slot. -/
theorem anOpenForwardIsSentUntranslated : Obligations.AnOpenForwardIsSentUntranslated := by
  refine fun s p => ⟨fun k f rest htakes hkind hpost hadmits hfree hheld => ?_, fun htakes hkind hadmits => ?_⟩
  · have hoffered : (takeFromC s).freeList ≠ [] ∧ (takeFromC s).holdList = [] :=
      ⟨by rw [show (takeFromC s).freeList = s.freeList from rfl, hfree]; simp, hheld⟩
    have hexec := exec_of_forward htakes hkind hadmits.first
      (judge_of_admitsOpen (admitsOpen_takeFromC hadmits) fun _ => hoffered)
    cases k with
    | read => exact hexec.trans (congrArg _ (forwardRequest_open_slot (s := takeFromC s) (k := .read) rfl hfree))
    | write => exact hexec.trans (congrArg _ (forwardRequest_open_slot (s := takeFromC s) (k := .write) rfl hfree))
    | post => exact absurd rfl hpost
  · have hexec := exec_of_forward (k := .post) htakes hkind hadmits.first
      (judge_of_admitsOpen (admitsOpen_takeFromC hadmits) fun hneeds => absurd rfl hneeds)
    exact hexec.trans (congrArg _ (forwardRequest_open_post rfl))

/-! ## Requests that are not forwarded -/

theorem answerError_requestOf (status : AnswerStatus) (k : ReqKind) (p : Packet) (s : State) :
    answerError status (requestOf k p) s =
      if k = .post then s else placeC (answerPacket s p.source p.tag status p.length []) s := by
  cases k <;> rfl

/-- Settles O26: the three outcomes of `runFresh`. -/
theorem aRequestNotForwardedIsAnsweredParkedOrDropped : Obligations.ARequestNotForwardedIsAnsweredParkedOrDropped := by
  intro k s p htakes hkind r u decision answered
  have hexec := exec_request htakes hkind
  have hanswered : ∀ status, answerError status r u = answered status := fun status => by
    rw [show r = requestOf k p from rfl, answerError_requestOf]
    rfl
  have hdecision : judge u r (hasItemOf r.source u.park) = decision := rfl
  rw [hexec]
  refine ⟨fun status fault h => ?_, fun reason fault h hroom => ?_, fun reason fault h hfull => ?_⟩
  · have hrun : runFresh r u = recordFault fault (answerError status r u) := by rw [runFresh, hdecision, h]
    rw [hanswered] at hrun
    exact congrArg _ hrun
  · have hrun : runFresh r u = parkFresh reason fault r u := by rw [runFresh, hdecision, h]
    exact congrArg _ (hrun.trans (if_pos hroom))
  · have hrun : runFresh r u = parkFresh reason fault r u := by rw [runFresh, hdecision, h]
    rw [parkFresh, if_neg (show ¬u.park.length < capacity from Nat.not_lt_of_le hfull), hanswered] at hrun
    exact congrArg _ hrun

end Sys2Proof.Machine
end

section
/-! The park queue (R71 to R84): one re-admission run, the cascade of a source, the triggers, and the claims of items. -/

namespace Sys2Proof.Machine

/-! ## An item in its place -/

theorem waitsFor_iff (hits : ParkReason → Bool) (it : ParkItem) :
    it.waitsFor hits = true ↔ ∃ r, it.state = .parked r ∧ hits r = true := by
  unfold ParkItem.waitsFor
  cases it.state <;> simp

theorem waitsFor_eq_false_iff (hits : ParkReason → Bool) (it : ParkItem) :
    it.waitsFor hits = false ↔ ∀ r, it.state = .parked r → hits r = false := by
  unfold ParkItem.waitsFor
  cases it.state <;> simp

theorem isParked_iff (it : ParkItem) : it.isParked = true ↔ ∃ r, it.state = .parked r := by
  simp only [ParkItem.isParked, waitsFor_iff, and_true]

theorem isParked_of_waitsFor {hits : ParkReason → Bool} {it : ParkItem} (h : it.waitsFor hits = true) :
    it.isParked = true := by
  obtain ⟨r, hr, -⟩ := (waitsFor_iff hits it).mp h
  exact (isParked_iff it).mpr ⟨r, hr⟩

/-- The serial numbers of a queue, head first. -/
def serials (l : List ParkItem) : List Nat := l.map ParkItem.serial

/-- In a queue of distinct serial numbers the items ahead of one and behind it have other numbers. -/
theorem serial_ne_of_split {ahead after : List ParkItem} {it : ParkItem}
    (h : (serials (ahead ++ it :: after)).Nodup) :
    (∀ x ∈ ahead, x.serial ≠ it.serial) ∧ (∀ x ∈ after, x.serial ≠ it.serial) := by
  simp only [serials, List.map_append, List.map_cons, List.nodup_append, List.nodup_cons, List.mem_map] at h
  obtain ⟨-, ⟨hafter, -⟩, hahead⟩ := h
  refine ⟨fun x hx => hahead _ ⟨x, hx, rfl⟩ _ (List.mem_cons_self ..), fun x hx heq => hafter ⟨x, hx, heq⟩⟩

section
variable {ahead after : List ParkItem} {it : ParkItem}

theorem itemOf_split (h : (serials (ahead ++ it :: after)).Nodup) :
    itemOf it.serial (ahead ++ it :: after) = some it := by
  obtain ⟨hahead, -⟩ := serial_ne_of_split h
  have hnone : ahead.find? (fun x => x.serial == it.serial) = none := by
    rw [List.find?_eq_none]
    intro x hx
    simpa using hahead x hx
  rw [itemOf, List.find?_append, hnone, List.find?_cons, beq_self_eq_true]
  rfl

theorem aheadOf_split (h : (serials (ahead ++ it :: after)).Nodup) :
    aheadOf it.serial (ahead ++ it :: after) = ahead := by
  obtain ⟨hahead, -⟩ := serial_ne_of_split h
  rw [aheadOf, List.takeWhile_append_of_pos (fun x hx => by simpa using hahead x hx), List.takeWhile_cons]
  simp

theorem removeItem_split {s : State} (h : (serials (ahead ++ it :: after)).Nodup) (hpark : s.park = ahead ++ it :: after) :
    removeItem it.serial s = s.setPark (ahead ++ after) := by
  obtain ⟨hahead, -⟩ := serial_ne_of_split h
  rw [removeItem, hpark, List.eraseP_append_right _ (fun x hx => by simpa using hahead x hx),
    List.eraseP_cons_of_pos (by simp)]

theorem setItemState_split {s : State} (st : ItemState) (h : (serials (ahead ++ it :: after)).Nodup)
    (hpark : s.park = ahead ++ it :: after) :
    setItemState it.serial st s = s.setPark (ahead ++ { it with state := st } :: after) := by
  obtain ⟨hahead, hafter⟩ := serial_ne_of_split h
  have hkeep {l : List ParkItem} (hl : ∀ x ∈ l, x.serial ≠ it.serial) :
      l.map (fun x => if x.serial == it.serial then { x with state := st } else x) = l := by
    conv_rhs => rw [← List.map_id l]
    refine List.map_congr_left fun x hx => ?_
    rw [if_neg (by simpa using hl x hx), id]
  rw [setItemState, hpark, List.map_append, List.map_cons, hkeep hahead, hkeep hafter, if_pos (beq_self_eq_true _)]

end

/-- The tables and the port that a forwarded request changes (R53). -/
theorem forwardRequest_frame (w : Option (Fin 64)) (r : Request) (s : State) : forwardRequest w r s =
    { s with
      meters := (forwardRequest w r s).meters
      slots := (forwardRequest w r s).slots
      freeList := (forwardRequest w r s).freeList
      windows := (forwardRequest w r s).windows
      mPort := (forwardRequest w r s).mPort } := by
  cases w with
  | none =>
    cases hk : slotKindFor none r.kind with
    | none => rw [forwardRequest_open_post hk]
    | some k =>
      cases hfree : s.freeList with
      | cons f rest => rw [forwardRequest_open_slot hk hfree]
      | nil => simp only [forwardRequest, Option.map_none, hk, takeSlot, hfree, countAdmission, State.setMPort]
  | some i =>
    cases hk : slotKindFor (some s.windows[i]) r.kind with
    | none => rw [forwardRequest_window_post hk]
    | some k =>
      cases hfree : s.freeList with
      | cons f rest => rw [forwardRequest_window_slot hk hfree]
      | nil =>
        simp only [forwardRequest, Option.map_some, hk, chargeMeter_eq, takeSlot, hfree, countAdmission, State.setMPort,
          State.setMeters, State.setWindow, State.setWindows]

theorem forwardRequest_park (w : Option (Fin 64)) (r : Request) (s : State) : (forwardRequest w r s).park = s.park := by
  rw [forwardRequest_frame]

theorem answerError_post (status : AnswerStatus) {r : Request} (h : r.kind = .post) (s : State) :
    answerError status r s = s := by
  unfold answerError
  rw [h]

theorem answerError_tag (status : AnswerStatus) {r : Request} {tag : Tag} (h : r.kind ≠ .post) (htag : r.tag = some tag)
    (s : State) : answerError status r s = placeC (answerPacket s r.source tag status r.length []) s := by
  unfold answerError
  rw [htag]
  cases hkind : r.kind with
  | read | write => rfl
  | post => exact absurd hkind h

theorem answerError_park (status : AnswerStatus) (r : Request) (s : State) :
    (answerError status r s).park = s.park := by
  unfold answerError
  split
  · exact placeC_park ..
  · exact placeC_park ..
  · rfl

theorem recordOpt_setPark (f : Option FaultInfo) (s : State) (l : List ParkItem) :
    recordOpt f (s.setPark l) = (recordOpt f s).setPark l := by
  cases f with
  | none => rfl
  | some f =>
    rw [recordOpt, recordOpt, recordFault_eq, recordFault_eq]
    rfl

theorem cFreeBeside_iff (s : State) (used : Nat) :
    s.cFreeBeside used = true ↔ s.cPort.training ≠ .up ∨ s.cPort.tx.length + used < 16 := by
  rw [State.cFreeBeside, Bool.or_eq_true, decide_eq_true_iff, State.cUp, Bool.not_eq_true', ← Bool.not_eq_true, isUp_iff]
  rfl

/-! ## One re-admission run -/

section
variable {s : State} {ahead after : List ParkItem} {it : ParkItem} (hpark : s.park = ahead ++ it :: after)
  (hnodup : (serials s.park).Nodup)
include hpark hnodup

theorem judgeItem_split : judgeItem it s = judge (judgedFor it s) it.req (hasItemOf it.req.source ahead) := by
  rw [hpark] at hnodup
  rw [judgeItem, hpark, aheadOf_split hnodup]

/-- A run whose item is forwarded (R74). -/
theorem readmitOnce_of_forward {w : Option (Fin 64)} (h : judgeItem it s = .forward w) (used : Nat) :
    readmitOnce it s used = ((forwardRequest w it.req s).setPark (ahead ++ after), true) := by
  have hsplit := hnodup
  rw [hpark] at hsplit
  have hremove := removeItem_split (s := forwardRequest w it.req s) hsplit ((forwardRequest_park w it.req s).trans hpark)
  rw [readmitOnce, h]
  exact Prod.ext hremove rfl

/-- A run whose item keeps its place with the reason of the run (R57). -/
theorem readmitOnce_of_park {reason : ParkReason} {fault : Option FaultInfo}
    (h : judgeItem it s = .park reason fault) (used : Nat) :
    readmitOnce it s used =
      ((recordOpt fault s).setPark (ahead ++ { it with state := .parked reason } :: after), false) := by
  have hsplit := hnodup
  rw [hpark] at hsplit
  rw [readmitOnce, h, ← recordOpt_setPark, ← setItemState_split _ hsplit hpark]

/-- A run whose item is answered or dropped, and leaves (R74). -/
theorem readmitOnce_of_answered {status : AnswerStatus} {fault : FaultInfo} (h : judgeItem it s = .refuse status fault)
    {used : Nat} (hplace : it.req.kind = .post ∨ s.cFreeBeside used = true) :
    readmitOnce it s used = ((recordFault fault (answerError status it.req s)).setPark (ahead ++ after), true) := by
  have hsplit := hnodup
  rw [hpark] at hsplit
  have hremove := removeItem_split (s := recordFault fault (answerError status it.req s)) hsplit
    (by rw [recordFault_park, answerError_park, hpark])
  simp only [readmitOnce, h]
  rw [if_pos hplace, hremove]

/-- A run whose item is to be answered and finds no place (R84). -/
theorem readmitOnce_of_no_place {status : AnswerStatus} {fault : FaultInfo} (h : judgeItem it s = .refuse status fault)
    {used : Nat} (hplace : ¬(it.req.kind = .post ∨ s.cFreeBeside used = true)) :
    readmitOnce it s used = (s.setPark (ahead ++ { it with state := .leaving status fault } :: after), false) := by
  have hsplit := hnodup
  rw [hpark] at hsplit
  simp only [readmitOnce, h]
  rw [if_neg hplace, setItemState_split _ hsplit hpark]

/-- What a run does to the queue: its item leaves, or takes a new state in its place (R72, R57). -/
theorem readmitOnce_park (used : Nat) : ∃ st,
    ((readmitOnce it s used).2 = true ∧ (readmitOnce it s used).1.park = ahead ++ after) ∨
    ((readmitOnce it s used).2 = false ∧
      (readmitOnce it s used).1.park = ahead ++ { it with state := st } :: after) := by
  cases h : judgeItem it s with
  | forward w =>
    rw [readmitOnce_of_forward hpark hnodup h]
    exact ⟨it.state, .inl ⟨rfl, rfl⟩⟩
  | park reason fault =>
    rw [readmitOnce_of_park hpark hnodup h]
    exact ⟨.parked reason, .inr ⟨rfl, rfl⟩⟩
  | refuse status fault =>
    by_cases hplace : it.req.kind = .post ∨ s.cFreeBeside used = true
    · rw [readmitOnce_of_answered hpark hnodup h hplace]
      exact ⟨it.state, .inl ⟨rfl, rfl⟩⟩
    · rw [readmitOnce_of_no_place hpark hnodup h hplace]
      exact ⟨.leaving status fault, .inr ⟨rfl, rfl⟩⟩

end

theorem judgedFor_eq (it : ParkItem) (s : State) : judgedFor it s =
    if s.mPort.training ≠ .up ∧ it.state = .parked .slot then { s with holdList := [] } else s := by
  have hslot : it.waitsFor (· == .slot) = true ↔ it.state = .parked .slot := by
    rw [waitsFor_iff]
    simp
  by_cases hup : s.mPort.training = .up
  · rw [judgedFor_of_up (mUp_of_up hup), if_neg (fun h => h.1 hup)]
  · by_cases hstate : it.state = .parked .slot
    · rw [judgedFor, mUp_of_not_up hup, hslot.mpr hstate, if_pos (show (!false && true) = true from rfl),
        if_pos ⟨hup, hstate⟩]
      rfl
    · rw [judgedFor_of_not_slot (Bool.eq_false_iff.mpr (hslot.not.mpr hstate)), if_neg fun h => hstate h.2]

/-- In OPEN mode, with a place and a slot at hand, a request finds the M-port not UP (R46). -/
theorem judge_of_open_down {s : State} (hopen : s.mode = .openMode) (hdown : s.mPort.training ≠ .up)
    (hplace : s.mPort.tx.length < 16) (hfree : s.freeList ≠ []) (hheld : s.holdList = []) (r : Request) :
    judge s r false = .refuse .targetLost (requestFault .targetLost .nowhere r) := by
  rw [judge_of_open hopen, judgeOpen_of_fits (oversize_eq_false fun h => absurd h hdown), if_neg, if_pos hdown]
  rintro (hfull | ⟨-, hnone⟩)
  · exact Nat.not_le_of_lt hplace hfull
  · exact hnone.elim hfree fun h => h hheld

/-- Settles O28: `judgedFor_eq` and the run of each decision. -/
theorem aReadmissionRunForwardsAnswersOrKeepsItsItem : Obligations.AReadmissionRunForwardsAnswersOrKeepsItsItem := by
  intro s ahead after it used hpark hnodup judged decision
  have hdecision : judgeItem it s = decision := by
    rw [judgeItem_split hpark hnodup, judgedFor_eq]
    rfl
  refine ⟨fun hup hslot hopen hfirst hplace hfree => ?_, fun w h => ?_, fun status fault h hpost => ?_,
    fun status fault tag h hkind htag hplace => ?_, fun status fault h hkind hup hfull => ?_, fun reason fault h => ?_⟩
  · have hjudged : judged = { s with holdList := [] } := if_pos ⟨hup, hslot⟩
    have hbehind : (ahead.any fun x => decide (x.req.source = it.req.source)) = false := by
      simpa using hfirst
    show judge judged it.req _ = _
    rw [hjudged, hbehind]
    exact judge_of_open_down (s := { s with holdList := [] }) hopen hup hplace hfree rfl it.req
  · exact readmitOnce_of_forward hpark hnodup (hdecision.trans h) used
  · rw [readmitOnce_of_answered hpark hnodup (hdecision.trans h) (.inl hpost), answerError_post status hpost]
    rfl
  · rw [readmitOnce_of_answered hpark hnodup (hdecision.trans h) (.inr ((cFreeBeside_iff s used).mpr hplace)),
      answerError_tag status hkind htag]
    rfl
  · refine readmitOnce_of_no_place hpark hnodup (hdecision.trans h) ?_
    rw [cFreeBeside_iff]
    rintro (hpost | hdown | hroom)
    · exact hkind hpost
    · exact hdown hup
    · exact Nat.not_le_of_lt hroom hfull
  · rw [readmitOnce_of_park hpark hnodup (hdecision.trans h), ← recordOpt_setPark]
    rfl

/-! ## The cascade -/

theorem find?_source_split {ahead after : List ParkItem} {it : ParkItem} {src : SourceId}
    (hfirst : ∀ x ∈ ahead, x.req.source ≠ src) (hsrc : it.req.source = src) :
    (ahead ++ it :: after).find? (fun x => x.req.source == src) = some it := by
  have hnone : ahead.find? (fun x => x.req.source == src) = none := by
    rw [List.find?_eq_none]
    intro x hx
    simpa using hfirst x hx
  rw [List.find?_append, hnone, List.find?_cons, hsrc, beq_self_eq_true]
  rfl

theorem isBehind_iff (it : ParkItem) : it.isBehind = true ↔ it.state = .parked .behind := by
  rw [ParkItem.isBehind, waitsFor_iff]
  simp

/-- The BEHIND trigger of a source with no item does nothing (R75). -/
theorem behindTrigger_of_no_item {src : SourceId} {s : State} (h : ∀ it ∈ s.park, it.req.source ≠ src) (used : Nat) :
    behindTrigger src s used = s := by
  have hnone : s.park.find? (fun x => x.req.source == src) = none := by
    rw [List.find?_eq_none]
    intro x hx
    simpa using h x hx
  rw [behindTrigger, behindNext, hnone]

section
variable {src : SourceId} {s : State} {ahead after : List ParkItem} {it : ParkItem}
  (hpark : s.park = ahead ++ it :: after) (hfirst : ∀ x ∈ ahead, x.req.source ≠ src) (hsrc : it.req.source = src)
include hpark hfirst hsrc

theorem behindTrigger_of_other (h : it.isBehind = false) (used : Nat) : behindTrigger src s used = s := by
  rw [behindTrigger, behindNext, hpark, find?_source_split hfirst hsrc]
  simp only [show it.waitsFor (· == .behind) = false from h, Bool.false_eq_true, if_false]

theorem behindTrigger_of_behind (h : it.isBehind = true) (used : Nat) :
    behindTrigger src s used = readmit s.park.length it.serial s used := by
  rw [behindTrigger, behindNext]
  conv_lhs => rw [hpark, find?_source_split hfirst hsrc]
  simp only [show it.waitsFor (· == .behind) = true from h, if_true, hpark]

end

/-- One run, and the cascade behind it when its item has left: a queue's length of fuel is enough (R75). -/
theorem readmit_eq {s : State} {it : ParkItem} (hmem : it ∈ s.park) (hnodup : (serials s.park).Nodup) (used : Nat) :
    readmit s.park.length it.serial s used =
      if (readmitOnce it s used).2 = true then behindTrigger it.req.source (readmitOnce it s used).1 used
      else (readmitOnce it s used).1 := by
  obtain ⟨ahead, after, hpark⟩ := List.append_of_mem hmem
  have hitem : itemOf it.serial s.park = some it := by
    rw [hpark] at hnodup ⊢
    exact itemOf_split hnodup
  have hlength : s.park.length = (ahead ++ after).length + 1 := by
    rw [hpark]
    simp
    omega
  rw [hlength, readmit, hitem]
  dsimp only
  by_cases hleft : (readmitOnce it s used).2 = true
  · have hrest : (readmitOnce it s used).1.park = ahead ++ after := by
      obtain ⟨st, ⟨-, hrest⟩ | ⟨hstays, -⟩⟩ := readmitOnce_park hpark hnodup used
      · exact hrest
      · rw [hleft] at hstays
        cases hstays
    rw [if_pos hleft, if_pos hleft, behindTrigger, hrest]
  · rw [if_neg hleft, if_neg hleft]

/-- What a run of a PARKED item keeps, in queues of distinct serial numbers, a cascade from a PARKED item keeps. -/
theorem readmit_keeps_parked {P : State → Prop} (distinct : ∀ s, P s → (serials s.park).Nodup)
    (one : ∀ it s u, it ∈ s.park → it.isParked = true → P s → P (readmitOnce it s u).1) (used : Nat) :
    ∀ (fuel serial : Nat) (s : State), (∀ it, itemOf serial s.park = some it → it.isParked = true) → P s →
      P (readmit fuel serial s used) := by
  intro fuel
  induction fuel with
  | zero => intro _ s _ h; exact h
  | succ fuel ih =>
    intro serial s hparked h
    rw [readmit]
    cases hitem : itemOf serial s.park with
    | none => exact h
    | some it =>
      have hone := one it s used (List.mem_of_find?_eq_some hitem) (hparked it hitem) h
      dsimp only
      split
      · cases hnext : behindNext it.req.source (readmitOnce it s used).1.park with
        | none => exact hone
        | some next =>
          refine ih next _ (fun it' hit' => ?_) hone
          unfold behindNext at hnext
          split at hnext
          next first hfirst =>
            split at hnext
            next hbehind =>
              obtain ⟨ahead, after, hsplit⟩ := List.append_of_mem (List.mem_of_find?_eq_some hfirst)
              have hnodup := distinct _ hone
              rw [hsplit] at hnodup hit'
              obtain rfl : first.serial = next := Option.some.inj hnext
              rw [itemOf_split hnodup] at hit'
              obtain rfl := Option.some.inj hit'
              exact isParked_of_waitsFor hbehind
            next => cases hnext
          next => cases hnext
      · exact hone

theorem trigger_keeps_parked {P : State → Prop} (distinct : ∀ s, P s → (serials s.park).Nodup)
    (one : ∀ it s u, it ∈ s.park → it.isParked = true → P s → P (readmitOnce it s u).1)
    (hits : ParkReason → Bool) (s : State) (h : P s) : P (trigger hits s) := by
  refine foldl_keeps (fun t serial ht => ?_) _ s h
  unfold triggerTurn
  cases hitem : itemOf serial t.park with
  | none => exact ht
  | some it =>
    dsimp only
    split
    next hwaits =>
      refine readmit_keeps_parked distinct one 0 _ _ _ (fun it' hit' => ?_) ht
      obtain rfl := Option.some.inj (hitem.symm.trans hit')
      exact isParked_of_waitsFor hwaits
    next => exact ht

/-- What no trigger changes of an item: its serial number, its arrival tick and its request. -/
def ParkItem.identity (it : ParkItem) : Nat × Tick × Request := (it.serial, it.arrival, it.req)

/-- The queue `l` is what is left of `l₀`: the same items in their order, and every LEAVING item as it was. -/
structure LeftOf (l₀ l : List ParkItem) : Prop where
  nodup : (serials l).Nodup
  sublist : (l.map ParkItem.identity).Sublist (l₀.map ParkItem.identity)
  leaving : ∀ it ∈ l₀, it.isLeaving = true → it ∈ l

theorem serials_eq_identity (l : List ParkItem) : serials l = (l.map ParkItem.identity).map Prod.fst := by
  rw [List.map_map]
  rfl

theorem leftOf_step {l₀ : List ParkItem} {s : State} {it : ParkItem} {used : Nat} (hmem : it ∈ s.park)
    (hparked : it.isParked = true) (h : LeftOf l₀ s.park) : LeftOf l₀ (readmitOnce it s used).1.park := by
  obtain ⟨ahead, after, hpark⟩ := List.append_of_mem hmem
  have hother {x : ParkItem} (hx : x ∈ l₀) (hleaving : x.isLeaving = true) : x ∈ ahead ++ after := by
    have hin := h.leaving x hx hleaving
    rw [hpark, List.mem_append, List.mem_cons] at hin
    rcases hin with hin | rfl | hin
    · exact List.mem_append_left _ hin
    · rw [ParkItem.isLeaving, hparked] at hleaving
      cases hleaving
    · exact List.mem_append_right _ hin
  have hsublist : ((readmitOnce it s used).1.park.map ParkItem.identity).Sublist (s.park.map ParkItem.identity) := by
    obtain ⟨st, ⟨-, hrest⟩ | ⟨-, hrest⟩⟩ := readmitOnce_park hpark h.nodup used
    · rw [hrest, hpark]
      exact ((List.sublist_cons_self it after).append_left ahead).map _
    · rw [hrest, hpark, List.map_append, List.map_append]
      exact List.Sublist.refl _
  refine ⟨?_, hsublist.trans h.sublist, fun x hx hleaving => ?_⟩
  · have hnodup := h.nodup
    rw [serials_eq_identity] at hnodup ⊢
    exact (hsublist.map Prod.fst).nodup hnodup
  · have hin := List.mem_append.mp (hother hx hleaving)
    obtain ⟨st, ⟨-, hrest⟩ | ⟨-, hrest⟩⟩ := readmitOnce_park hpark h.nodup used
    · rw [hrest]
      exact List.mem_append.mpr hin
    · rw [hrest]
      exact List.mem_append.mpr (hin.imp_right (List.mem_cons_of_mem _))

theorem trigger_leftOf (hits : ParkReason → Bool) {s : State} (h : (serials s.park).Nodup) :
    LeftOf s.park (trigger hits s).park :=
  trigger_keeps_parked (P := fun t => LeftOf s.park t.park) (fun _ ht => ht.nodup)
    (fun _ _ _ hmem hparked ht => leftOf_step hmem hparked ht) hits s
    ⟨h, List.Sublist.refl _, fun _ hit _ => hit⟩

/-- A trigger that one item waits for re-admits that item (R73). -/
theorem trigger_of_one {hits : ParkReason → Bool} {s : State} {ahead after : List ParkItem} {it : ParkItem}
    (hnodup : (serials s.park).Nodup) (hpark : s.park = ahead ++ it :: after) (hit : it.waitsFor hits = true)
    (hothers : ∀ x ∈ ahead ++ after, x.waitsFor hits = false) :
    trigger hits s = readmit s.park.length it.serial s := by
  have hnone {l : List ParkItem} (hl : ∀ x ∈ l, x.waitsFor hits = false) : l.filter (ParkItem.waitsFor hits) = [] := by
    rw [List.filter_eq_nil_iff]
    intro x hx
    rw [hl x hx]
    exact Bool.false_ne_true
  have hset : s.park.filter (ParkItem.waitsFor hits) = [it] := by
    rw [hpark, List.filter_append, List.filter_cons_of_pos hit,
      hnone fun x hx => hothers x (List.mem_append_left _ hx), hnone fun x hx => hothers x (List.mem_append_right _ hx)]
    rfl
  have hitem : itemOf it.serial s.park = some it := by
    rw [hpark] at hnodup ⊢
    exact itemOf_split hnodup
  rw [trigger, hset, List.map_cons, List.map_nil, List.foldl_cons, List.foldl_nil, triggerTurn, hitem]
  exact if_pos hit

/-- Settles O29: the BEHIND trigger by its source's oldest item, `readmit_eq`, `trigger_of_one` and `trigger_leftOf`. -/
theorem triggersReadmitTheirSetAndCascade : Obligations.TriggersReadmitTheirSetAndCascade := by
  refine ⟨⟨fun src s used h => behindTrigger_of_no_item h used, fun src s used ahead after it hpark hfirst hsrc => ?_,
    fun s it used hmem hnodup => readmit_eq hmem hnodup used⟩, ?_, fun hits s hnodup => ?_,
    fun s => ⟨rfl, fun m => rfl, slotTrigger_at_once, slotTrigger_waits⟩⟩
  · refine ⟨fun h => ?_, fun h => ?_⟩
    · exact behindTrigger_of_other hpark hfirst hsrc (Bool.eq_false_iff.mpr ((isBehind_iff it).not.mpr h)) used
    · exact behindTrigger_of_behind hpark hfirst hsrc ((isBehind_iff it).mpr h) used
  · intro hits s waits
    rfl
  · have hleft := trigger_leftOf hits hnodup
    refine ⟨fun h => trigger_of_no_item fun it hit => (waitsFor_eq_false_iff hits it).mpr (h it hit), ?_,
      hleft.sublist, hleft.leaving⟩
    intro ahead after it r hpark hstate hhit hothers
    exact trigger_of_one hnodup hpark ((waitsFor_iff hits it).mpr ⟨r, hstate, hhit⟩)
      fun x hx => (waitsFor_eq_false_iff hits x).mpr (hothers x hx)

/-! ## The claims of items -/

/-- The claim nearest the head is the park queue's own (R80). -/
theorem parkClaim_split {s : State} {ahead after : List ParkItem} {it : ParkItem} (habort : s.abortList = [])
    (hpark : s.park = ahead ++ it :: after) (hahead : ∀ x ∈ ahead, x.claims = false) (hit : it.claims = true) :
    s.parkClaim = some it := by
  have hnone : ahead.find? ParkItem.claims = none := by
    rw [List.find?_eq_none]
    intro x hx
    rw [hahead x hx]
    exact Bool.false_ne_true
  rw [State.parkClaim, habort, hpark, List.find?_append, hnone, List.find?_cons, hit]
  rfl

/-- The item leaves with its answer and fault, and its source's next item is re-admitted (R75, R83). -/
theorem itemLeaves_split {u : State} {ahead after : List ParkItem} {it : ParkItem}
    (hpark : u.park = ahead ++ it :: after) (hnodup : (serials u.park).Nodup) (status : AnswerStatus) (fault : FaultInfo) :
    itemLeaves it status fault u = behindTrigger it.req.source
      ((recordFault fault (answerError status it.req u)).setPark (ahead ++ after)) it.placesUsed := by
  rw [hpark] at hnodup
  rw [itemLeaves, removeItem_split hnodup (by rw [recordFault_park, answerError_park, hpark])]

theorem takeParkClaim_eq {s : State} {it : ParkItem} (hgrant : s.granted = some .parkQueue)
    (hclaim : s.parkClaim = some it) (leaving : Bool) (act : ParkItem → State → State) :
    takeParkClaim leaving act s = if it.isLeaving = leaving then act it (grantTo .parkQueue s) else s := by
  rw [takeParkClaim, if_pos hgrant, hclaim]

/-- Settles O30: `takeParkClaim_eq` with the claim of `parkClaim_split`, and `itemLeaves_split`. -/
theorem theClaimNearestTheHeadLeavesTheParkQueue : Obligations.TheClaimNearestTheHeadLeavesTheParkQueue := by
  intro s ahead after it hgrants habort hpark hnodup hahead u answered used
  have hused : it.placesUsed = used := by
    show (if it.req.kind = .post then 1 else 0) = match it.req.kind with
      | .post => 1
      | .read | .write => 0
    cases it.req.kind <;> rfl
  have hanswered : ∀ status, answerError status it.req u = answered status := fun status => by
    show (match it.req.kind, it.req.tag with
      | .read, some t | .write, some t => placeC (answerPacket u it.req.source t status it.req.length []) u
      | _, _ => u) = match it.req.kind, it.req.tag with
      | .post, _ | _, none => u
      | _, some tag => placeC (answerPacket s it.req.source tag status it.req.length []) u
    cases it.req.kind <;> cases it.req.tag <;> rfl
  have hleaves : ∀ status fault, itemLeaves it status fault (grantTo .parkQueue s) =
      behindTrigger it.req.source ((recordFault fault (answered status)).setPark (ahead ++ after)) used :=
    fun status fault => by
      rw [← hused, ← hanswered]
      exact itemLeaves_split (u := u) hpark hnodup status fault
  have hunclaimed : ∀ x ∈ ahead, x.claims = false := fun x hx => by
    obtain ⟨hparked, hmark⟩ := hahead x hx
    rw [ParkItem.claims, ParkItem.isLeaving, hparked, hmark]
    rfl
  have hexpiry : exec .parkExpiry s = .next (takeParkClaim false expireItem s) := whenRunning_high hgrants.1 _
  have hleaving : exec .leavingAnswer s = .next (takeParkClaim true leaveItem s) := whenRunning_high hgrants.1 _
  refine ⟨fun hparked hmark => ?_, fun status fault hstate => ?_⟩
  · have hstays : it.isLeaving = false := by rw [ParkItem.isLeaving, hparked]; rfl
    have hclaim := parkClaim_split habort hpark hunclaimed (by rw [ParkItem.claims, hmark, Bool.or_true])
    rw [hexpiry, hleaving, takeParkClaim_eq hgrants.2 hclaim, takeParkClaim_eq hgrants.2 hclaim, hstays]
    exact ⟨congrArg _ (hleaves .expired (parkExpiredFault it)), rfl⟩
  · have hleaves' : it.isLeaving = true := by
      simp only [ParkItem.isLeaving, ParkItem.isParked, ParkItem.waitsFor, hstate, Bool.not_false]
    have hclaim := parkClaim_split habort hpark hunclaimed (by rw [ParkItem.claims, hleaves', Bool.true_or])
    have hact : leaveItem it (grantTo .parkQueue s) = itemLeaves it status fault (grantTo .parkQueue s) := by
      rw [leaveItem, hstate]
    rw [hexpiry, hleaving, takeParkClaim_eq hgrants.2 hclaim, takeParkClaim_eq hgrants.2 hclaim, hleaves']
    exact ⟨congrArg _ (hact.trans (hleaves status fault)), rfl⟩

end Sys2Proof.Machine
end

section
/-! SET_MODE and RESET(WARM) (R63 to R65, R86 to R88, R110, R154, R155): what waits is answered in the free places of the
C send queue, and listed behind them. -/

namespace Sys2Proof.Machine

/-! ## Answers in the free places, then on a list -/

/-- An answer owed to a source under a tag, with the length of its request. -/
abbrev Owed := SourceId × Tag × Nat

/-- An answer goes to the send queue while it has a free place, and behind that to a waiting list. -/
def placeOrKeep {α β γ : Type} (packet : α → β) (entry : α → γ) (q : List β × List γ) (x : α) : List β × List γ :=
  if q.1.length < capacity then (q.1 ++ [packet x], q.2) else (q.1, q.2 ++ [entry x])

theorem foldl_placeOrKeep {α β γ : Type} (packet : α → β) (entry : α → γ) (l : List α) (q : List β × List γ) :
    l.foldl (placeOrKeep packet entry) q =
      (q.1 ++ (l.take (16 - q.1.length)).map packet, q.2 ++ (l.drop (16 - q.1.length)).map entry) := by
  induction l generalizing q with
  | nil => simp
  | cons x l ih =>
    rw [List.foldl_cons, ih, placeOrKeep]
    by_cases hroom : q.1.length < capacity
    · have hfree : 16 - q.1.length = (16 - (q.1 ++ [packet x]).length) + 1 := by
        have h : q.1.length < 16 := hroom
        simp only [List.length_append, List.length_singleton]
        omega
      simp only [if_pos hroom, hfree, List.take_succ_cons, List.drop_succ_cons, List.map_cons, List.append_assoc,
        List.singleton_append]
    · have hfree : 16 - q.1.length = 0 := by
        have h : ¬q.1.length < 16 := hroom
        omega
      simp only [if_neg hroom, hfree, List.take_zero, List.drop_zero, List.map_nil, List.append_nil, List.map_cons,
        List.append_assoc, List.singleton_append]

/-- The free places of the C send queue for `n` answers; while the C-port is not UP all are discarded (R86). -/
def State.freeFor (s : State) (n : Nat) : Nat := if s.cUp then 16 - s.cPort.tx.length else n

/-- The C-port with packets placed, or discarded while it is not UP. -/
def State.placedC (s : State) (pkts : List Packet) : PortState :=
  if s.cUp then { s.cPort with tx := s.cPort.tx ++ pkts } else s.cPort

theorem placedC_isUp (s : State) (pkts : List Packet) : (s.placedC pkts).isUp = s.cUp := by
  unfold State.placedC
  split <;> rfl

/-- The answer of an item or a slot that an event ends. -/
def State.endAnswer (s : State) (status : AnswerStatus) (x : Owed) : Packet :=
  answerPacket s x.1 x.2.1 status x.2.2 []

theorem cFree_of_not_up {s : State} (h : s.cUp = false) : s.cFree = true := by rw [State.cFree, h]; rfl

theorem placeC_of_not_cUp {s : State} (h : s.cUp = false) (pkt : Packet) : placeC pkt s = s := by
  rw [placeC, h]
  rfl

/-- A list of the state in which answers wait for a place: how it is read and written. -/
structure WaitList (ε : Type) where
  get : State → List ε
  set : State → List ε → State
  get_set : ∀ s l, get (set s l) = l
  set_get : ∀ s, set s (get s) = s
  get_setCPort : ∀ s x, get (s.setCPort x) = get s
  cPort_set : ∀ s l, (set s l).cPort = s.cPort
  straps_set : ∀ s l, (set s l).straps = s.straps
  set_setCPort_set : ∀ s l x l', set ((set s l).setCPort x) l' = set (s.setCPort x) l'

namespace WaitList
variable {ε : Type} (w : WaitList ε)

/-- One answer: placed if a place is free, else at the tail of the list (R87, R106). -/
def placeOrWait (status : AnswerStatus) (entry : Owed → ε) (s : State) (x : Owed) : State :=
  if s.cFree then placeC (s.endAnswer status x) s else w.set s (w.get s ++ [entry x])

theorem endAnswer_set (s : State) (l : List ε) (status : AnswerStatus) :
    (w.set s l).endAnswer status = s.endAnswer status := by
  unfold State.endAnswer answerPacket
  rw [w.straps_set]

theorem foldl_placeOrWait_up (status : AnswerStatus) (entry : Owed → ε) (l : List Owed) {s : State}
    (hup : s.cUp = true) : l.foldl (w.placeOrWait status entry) s =
      w.set (s.setCPort { s.cPort with
          tx := (l.foldl (placeOrKeep (s.endAnswer status) entry) (s.cPort.tx, w.get s)).1 })
        (l.foldl (placeOrKeep (s.endAnswer status) entry) (s.cPort.tx, w.get s)).2 := by
  induction l generalizing s with
  | nil => exact (w.set_get s).symm
  | cons x l ih =>
    rw [List.foldl_cons, List.foldl_cons]
    by_cases hroom : s.cPort.tx.length < capacity
    · have hone : w.placeOrWait status entry s x = s.setCPort (s.cPort.enqueue (s.endAnswer status x)) := by
        rw [placeOrWait, State.cFree, hup, decide_eq_true hroom, placeC, hup]
        rfl
      have hrest := ih (s := s.setCPort (s.cPort.enqueue (s.endAnswer status x))) hup
      rw [w.get_setCPort] at hrest
      rw [hone, placeOrKeep, if_pos hroom]
      exact hrest
    · have hone : w.placeOrWait status entry s x = w.set s (w.get s ++ [entry x]) := by
        rw [placeOrWait, State.cFree, hup, decide_eq_false hroom]
        rfl
      have hrest := ih (s := w.set s (w.get s ++ [entry x])) (by rw [State.cUp, w.cPort_set]; exact hup)
      rw [w.get_set, w.cPort_set, w.endAnswer_set, w.set_setCPort_set] at hrest
      rw [hone, placeOrKeep, if_neg hroom]
      exact hrest

/-- Answers take the free places of the C send queue in their order, and the rest wait on the list; while the C-port is
not UP they are discarded. -/
theorem foldl_placeOrWait (status : AnswerStatus) (entry : Owed → ε) (l : List Owed) (s : State) :
    l.foldl (w.placeOrWait status entry) s =
      w.set (s.setCPort (s.placedC ((l.take (s.freeFor l.length)).map (s.endAnswer status))))
        (w.get s ++ (l.drop (s.freeFor l.length)).map entry) := by
  cases hup : s.cUp with
  | true =>
    rw [w.foldl_placeOrWait_up status entry l hup, foldl_placeOrKeep, State.placedC, State.freeFor, hup]
    rfl
  | false =>
    have hstays : l.foldl (w.placeOrWait status entry) s = s := by
      induction l with
      | nil => rfl
      | cons x l ih =>
        have hone : w.placeOrWait status entry s x = s := by
          rw [placeOrWait, if_pos (cFree_of_not_up hup), placeC_of_not_cUp hup]
        rw [List.foldl_cons, hone, ih]
    have hnone : s.freeFor l.length = l.length := by rw [State.freeFor, hup]; rfl
    have hport : s.placedC ((l.take (s.freeFor l.length)).map (s.endAnswer status)) = s.cPort := by
      rw [State.placedC, hup]
      rfl
    rw [hstays, hport, hnone, List.drop_length, List.map_nil, List.append_nil]
    exact (w.set_get s).symm

end WaitList

/-! ## The items of the park queue -/

/-- The answer an item is owed: none for a POST (R86). -/
def ParkItem.owed (it : ParkItem) : Option Owed :=
  match it.req.kind, it.req.tag with
  | .post, _ | _, none => none
  | _, some tag => some (it.req.source, tag, it.req.length)

/-- The entry of the abort list for an answer (R87). -/
def abortEntry (fromModeChange : Bool) (x : Owed) : AbortEntry :=
  { dest := x.1, tag := x.2.1, length := x.2.2, fromModeChange := fromModeChange }

/-- The abort list as a list of answers that wait. -/
def WaitList.aborts : WaitList AbortEntry where
  get := State.abortList
  set := State.setAbortList
  get_set _ _ := rfl
  set_get _ := rfl
  get_setCPort _ _ := rfl
  cPort_set _ _ := rfl
  straps_set _ _ := rfl
  set_setCPort_set _ _ _ _ := rfl

/-- One ABORTED answer: placed if a place is free, else listed (R87). -/
def abortOwed (fromModeChange : Bool) (s : State) (x : Owed) : State :=
  WaitList.aborts.placeOrWait .aborted (abortEntry fromModeChange) s x

theorem abortItem_eq (b : Bool) (s : State) (it : ParkItem) :
    abortItem b s it = (it.owed.map (abortOwed b s)).getD s := by
  unfold abortItem ParkItem.owed
  cases it.req.kind <;> cases it.req.tag <;> rfl

theorem foldl_getD_map {α β : Type} (f : State → β → State) (g : α → Option β) (l : List α) (s : State) :
    l.foldl (fun t x => ((g x).map (f t)).getD t) s = (l.filterMap g).foldl f s := by
  induction l generalizing s with
  | nil => rfl
  | cons x l ih =>
    rw [List.foldl_cons, ih]
    cases hx : g x with
    | none => rw [List.filterMap_cons_none hx]; rfl
    | some y => rw [List.filterMap_cons_some hx]; rfl

theorem foldl_abortOwed (b : Bool) (l : List Owed) (s : State) :
    l.foldl (abortOwed b) s =
      { s with
        cPort := s.placedC ((l.take (s.freeFor l.length)).map (s.endAnswer .aborted))
        abortList := s.abortList ++ (l.drop (s.freeFor l.length)).map (abortEntry b) } :=
  WaitList.aborts.foldl_placeOrWait .aborted (abortEntry b) l s

/-- The ending of every item of the park queue (R86, R88). -/
theorem abortPark_eq (b : Bool) (s : State) : abortPark b s =
    { s with
      park := []
      cPort := s.placedC (((s.park.filterMap ParkItem.owed).take
        (s.freeFor (s.park.filterMap ParkItem.owed).length)).map (s.endAnswer .aborted))
      abortList := s.abortList ++ ((s.park.filterMap ParkItem.owed).drop
        (s.freeFor (s.park.filterMap ParkItem.owed).length)).map (abortEntry b) } := by
  have hfold : abortPark b s = (s.park.filterMap ParkItem.owed).foldl (abortOwed b) (s.setPark []) := by
    rw [abortPark, ← foldl_getD_map]
    exact congrArg (fun f => s.park.foldl f (s.setPark [])) (funext fun t => funext fun it => abortItem_eq b t it)
  rw [hfold, foldl_abortOwed]
  rfl

/-! ## SET_MODE -/

theorem answersOwed_iff (s : State) : answersOwed s = true ↔ ∃ it ∈ s.park, it.req.kind ≠ .post := by
  simp only [answersOwed, List.any_eq_true, bne_iff_ne]

theorem modeOfCode_byte (m : Mode) : modeOfCode (BitVec.ofNat 8 m.code).toNat = some m := by cases m <;> rfl

/-- The state of a mode change before its reply or its long operation (R64, R65). -/
def State.modeChanged (s : State) (m : Mode) : State :=
  (abortPark true (s.setModeField m)).setSlots (mapTable Slot.marked s.slots)

theorem modeChanged_eq (s : State) (m : Mode) : s.modeChanged m =
    { s with
      mode := m
      park := []
      slots := mapTable Slot.marked s.slots
      cPort := s.placedC (((s.park.filterMap ParkItem.owed).take
        (s.freeFor (s.park.filterMap ParkItem.owed).length)).map (s.endAnswer .aborted))
      abortList := s.abortList ++ ((s.park.filterMap ParkItem.owed).drop
        (s.freeFor (s.park.filterMap ParkItem.owed).length)).map (abortEntry true) } := by
  rw [State.modeChanged, abortPark_eq]
  rfl

/-- A change of mode by how many slots it marks and whether it owes answers (R64, R65; log 14). -/
theorem changeMode_eq (m : Mode) (p : Packet) (s : State) : changeMode m p s =
    if waitingCount s ≠ 0 then (s.modeChanged m).setLongOp (.setMode p.source p.tag s.mode (waitingCount s))
    else if answersOwed s then
      listReply (replyTo p .ok (setModeResults s.mode (waitingCount s)) s)
        (waitsFor s.abortList.length (s.modeChanged m).abortList.length) 0 (s.modeChanged m)
    else reply p .ok (setModeResults s.mode (waitingCount s)) (s.modeChanged m) := by
  have hslots : (abortPark true (s.setModeField m)).slots = s.slots := by rw [abortPark_eq]; rfl
  have hcount : waitingCount (abortPark true (s.setModeField m)) = waitingCount s := by
    rw [waitingCount, waitingCount, hslots]
  unfold changeMode
  dsimp only
  rw [hslots, hcount, ← State.modeChanged, modeChanged_eq]
  rfl

/-- Settles O50: the operand read back, and `changeMode_eq` over `modeChanged_eq`. -/
theorem setModeChangesTheModeAndAbortsTheParkQueue : Obligations.SetModeChangesTheModeAndAbortsTheParkQueue := by
  intro s p m h
  have htaken : exec .setMode s = .next (mgmtSetMode p (takeFromC s)) := exec_of_asks (row := .setMode) h rfl
  have hmode : modeOfCode (byteAt p.payload 1) = some m := by
    rw [h.payload]
    exact modeOfCode_byte m
  have hbody : mgmtSetMode p (takeFromC s) =
      if s.longOp ≠ .idle then s.replied p .busy []
      else if m = s.mode then s.replied p .ok (setModeResults s.mode 0)
      else changeMode m p (takeFromC s) := by
    rw [mgmtSetMode, withLength_right (by rw [h.payload]; rfl), hmode]
    rfl
  rw [hbody] at htaken
  rw [htaken]
  refine ⟨fun hbusy => by rw [if_pos hbusy], fun hidle hsame => ?_, fun hidle hother => ?_⟩
  · rw [if_neg (not_not.mpr hidle), if_pos hsame, hsame]
    rfl
  · intro u answered free placed marked changed results
    have hup : u.cUp = s.cUp := takeFromC_cUp s
    have hanswered : u.park.filterMap ParkItem.owed = answered := rfl
    have hfree : u.freeFor answered.length = free := by rw [State.freeFor, hup]
    have hchanged : u.modeChanged m = changed := by
      rw [modeChanged_eq, hanswered, hfree, State.placedC, hup]
      rfl
    have hcount : waitingCount u = marked := rfl
    rw [if_neg (not_not.mpr hidle), if_neg hother, changeMode_eq, hcount, hchanged]
    refine ⟨fun hmarked => ?_, fun hnone hposts => ?_, fun hnone howed => ?_⟩
    · rw [if_pos hmarked]
      rfl
    · have hquiet : ¬answersOwed u = true := by
        rw [answersOwed_iff]
        rintro ⟨it, hit, hkind⟩
        exact hkind (hposts it hit)
      rw [if_neg (not_not.mpr hnone), if_neg hquiet]
      rfl
    · rw [if_neg (not_not.mpr hnone), if_pos ((answersOwed_iff u).mpr howed), listReply_eq]
      have hup' : changed.cUp = s.cUp := by
        rw [← hchanged, modeChanged_eq]
        exact (placedC_isUp u _).trans hup
      rw [hup']
      cases s.cUp <;> rfl

end Sys2Proof.Machine
end

section
/-! RESET(WARM) and the freeing of every slot at once (R106, R110, R154, R155). -/

namespace Sys2Proof.Machine

/-! ## The answers of slots -/

/-- The answer a slot is owed: none for a CONFIRM slot (R106). -/
def Slot.owed (x : Slot) : Option Owed :=
  match x.kind, x.upTag with
  | .confirm, _ | _, none => none
  | _, some tag => some (x.origin, tag, x.length)

/-- The entry of the answer hold list for an answer (R106). -/
def holdEntry (status : AnswerStatus) (x : Owed) : HoldEntry :=
  { dest := x.1, tag := x.2.1, length := x.2.2, status := status }

/-- The answer hold list as a list of answers that wait. -/
def WaitList.holds : WaitList HoldEntry where
  get := State.holdList
  set := State.setHoldList
  get_set _ _ := rfl
  set_get _ := rfl
  get_setCPort _ _ := rfl
  cPort_set _ _ := rfl
  straps_set _ _ := rfl
  set_setCPort_set _ _ _ _ := rfl

/-- One answer of a slot: placed if a place is free, else held (R106). -/
def holdOwed (status : AnswerStatus) (s : State) (x : Owed) : State :=
  WaitList.holds.placeOrWait status (holdEntry status) s x

theorem answerOrHold_eq (x : Slot) (status : AnswerStatus) (s : State) :
    answerOrHold x status s = (x.owed.map (holdOwed status s)).getD s := by
  unfold answerOrHold answerSlot Slot.owed
  cases x.kind <;> cases x.upTag <;> simp only [ite_self] <;> rfl

/-- The port and the list that the answer of a slot changes. -/
theorem answerOrHold_frame (x : Slot) (status : AnswerStatus) (s : State) : answerOrHold x status s =
    (s.setCPort (answerOrHold x status s).cPort).setHoldList (answerOrHold x status s).holdList := by
  rw [answerOrHold_eq]
  cases x.owed with
  | none => rfl
  | some y =>
    show holdOwed status s y = (s.setCPort (holdOwed status s y).cPort).setHoldList (holdOwed status s y).holdList
    unfold holdOwed WaitList.placeOrWait
    split
    · rw [placeC_eq]
      rfl
    · rfl

/-- The answers of slots, in the free places of the C send queue and then on the hold list (R106). -/
theorem foldl_answerOrHold (status : AnswerStatus) (record : Fin 32 → Slot) (l : List (Fin 32)) (s : State) :
    l.foldl (fun t i => answerOrHold (record i) status t) s =
      { s with
        cPort := s.placedC (((l.filterMap fun i => (record i).owed).take
          (s.freeFor (l.filterMap fun i => (record i).owed).length)).map (s.endAnswer status))
        holdList := s.holdList ++ ((l.filterMap fun i => (record i).owed).drop
          (s.freeFor (l.filterMap fun i => (record i).owed).length)).map (holdEntry status) } := by
  have hfold : l.foldl (fun t i => answerOrHold (record i) status t) s =
      (l.filterMap fun i => (record i).owed).foldl (holdOwed status) s := by
    rw [← foldl_getD_map]
    exact congrArg (fun f => l.foldl f s) (funext fun t => funext fun i => answerOrHold_eq (record i) status t)
  rw [hfold]
  exact WaitList.holds.foldl_placeOrWait status (holdEntry status) _ s

/-! ## Folds over the slots -/

/-- The WAITING slots in ascending order. -/
def State.waitingSlots (s : State) : List (Fin 32) :=
  (List.finRange 32).filter fun i => decide ((s.slots[i]).state = .waiting)

theorem mem_waitingSlots {s : State} {i : Fin 32} : i ∈ s.waitingSlots ↔ (s.slots[i]).state = .waiting := by
  simp only [State.waitingSlots, List.mem_filter, List.mem_finRange, true_and, decide_eq_true_iff]

theorem waitingSlots_nodup (s : State) : s.waitingSlots.Nodup := (List.nodup_finRange 32).filter _

theorem waitingSlots_length (s : State) : s.waitingSlots.length = waitingCount s := by
  rw [waitingCount, countTable_eq, List.countP_eq_length_filter]
  rfl

/-- A fold that ends every WAITING slot acts on the slots as they were at its beginning: each is ended once. -/
theorem foldl_waiting {turn : State → Fin 32 → State} {act : Slot → State → Fin 32 → State}
    (hturn : ∀ s i, turn s i = if (s.slots[i]).state = .waiting then act s.slots[i] s i else s)
    (hslots : ∀ x s i j, j ≠ i → (act x s i).slots[j] = s.slots[j]) {l : List (Fin 32)} (hnodup : l.Nodup) (s : State) :
    l.foldl turn s = (l.filter fun i => decide ((s.slots[i]).state = .waiting)).foldl
      (fun t i => act s.slots[i] t i) s := by
  induction l generalizing s with
  | nil => rfl
  | cons i l ih =>
    obtain ⟨hi, hl⟩ := List.nodup_cons.mp hnodup
    rw [List.foldl_cons, hturn]
    by_cases hwaiting : (s.slots[i]).state = .waiting
    · have hother : ∀ j ∈ l, (act s.slots[i] s i).slots[j] = s.slots[j] := fun j hj =>
        hslots _ s i j fun h => hi (h ▸ hj)
      have hset : (l.filter fun j => decide (((act s.slots[i] s i).slots[j]).state = .waiting)) =
          l.filter fun j => decide ((s.slots[j]).state = .waiting) :=
        List.filter_congr fun j hj => by rw [hother j hj]
      rw [if_pos hwaiting, ih hl, hset, List.filter_cons_of_pos (by simpa using hwaiting), List.foldl_cons]
      exact List.foldl_ext _ _ _ fun t j hj => by rw [hother j (List.mem_of_mem_filter hj)]
    · rw [if_neg hwaiting, ih hl, List.filter_cons_of_neg (by simpa using hwaiting)]

/-- Of two turns that commute, one fold of both is the fold of the second behind the fold of the first. -/
theorem foldl_both {α : Type} {f g : State → α → State} (hcomm : ∀ s x y, f (g s x) y = g (f s y) x) (l : List α)
    (s : State) : l.foldl (fun t x => g (f t x) x) s = l.foldl g (l.foldl f s) := by
  have hpass : ∀ (l : List α) (s : State) (x : α), l.foldl f (g s x) = g (l.foldl f s) x := by
    intro l
    induction l with
    | nil => intro s x; rfl
    | cons y l ih => intro s x; rw [List.foldl_cons, hcomm, ih, List.foldl_cons]
  induction l generalizing s with
  | nil => rfl
  | cons x l ih => rw [List.foldl_cons, ih, hpass, List.foldl_cons, List.foldl_cons]

/-- A slot becomes FREE and joins the free list (R104 steps 1 and 4). -/
def freeRecord (x : Slot) (s : State) (i : Fin 32) : State := (s.setSlot i x.freed).setFreeList (s.freeList ++ [i])

theorem foldl_freeRecord (record : Fin 32 → Slot) (l : List (Fin 32)) (s : State) :
    l.foldl (fun t i => freeRecord (record i) t i) s =
      (s.setSlots (l.foldl (fun v i => setAt v i (record i).freed) s.slots)).setFreeList (s.freeList ++ l) := by
  induction l generalizing s with
  | nil => rw [List.foldl_nil, List.foldl_nil, List.append_nil]; rfl
  | cons i l ih =>
    rw [List.foldl_cons, ih, List.foldl_cons, freeRecord]
    simp only [State.setSlot, State.setSlots, State.setFreeList, List.append_assoc, List.singleton_append]

theorem foldl_setAt_get {α : Type} {n : Nat} (f : Fin n → α) (l : List (Fin n)) (v : Vector α n) (j : Fin n) :
    (l.foldl (fun v i => setAt v i (f i)) v)[j] = if j ∈ l then f j else v[j] := by
  induction l generalizing v with
  | nil => rfl
  | cons i l ih =>
    rw [List.foldl_cons, ih, setAt_get]
    by_cases hj : j = i
    · subst hj
      rw [if_pos rfl, if_pos (List.mem_cons_self ..), ite_self]
    · rw [if_neg hj]
      simp only [List.mem_cons, hj, false_or]

/-- A slot across the freeing of every slot. -/
def Slot.ended (x : Slot) : Slot := if x.state = .waiting then x.freed else x

/-- The freeing of every WAITING slot leaves the table with each freed. -/
theorem foldl_freed_waitingSlots (s : State) :
    s.waitingSlots.foldl (fun v i => setAt v i (s.slots[i]).freed) s.slots = mapTable Slot.ended s.slots := by
  refine Vector.ext fun k hk => ?_
  have hget := foldl_setAt_get (fun i => (s.slots[i]).freed) s.waitingSlots s.slots ⟨k, hk⟩
  have hmap := mapTable_get Slot.ended s.slots ⟨k, hk⟩
  simp only [mem_waitingSlots] at hget
  exact hget.trans hmap.symm

theorem freeRecord_answerOrHold (x y : Slot) (status : AnswerStatus) (s : State) (i : Fin 32) :
    answerOrHold y status (freeRecord x s i) = freeRecord x (answerOrHold y status s) i := by
  rw [answerOrHold_eq, answerOrHold_eq]
  cases y.owed with
  | none => rfl
  | some z =>
    show holdOwed status (freeRecord x s i) z = freeRecord x (holdOwed status s z) i
    unfold holdOwed WaitList.placeOrWait
    have hfree : (freeRecord x s i).cFree = s.cFree := rfl
    rw [hfree]
    split
    · rw [placeC_eq, placeC_eq]
      rfl
    · rfl

theorem answerOrHold_slots (x : Slot) (status : AnswerStatus) (s : State) :
    (answerOrHold x status s).slots = s.slots := by
  rw [answerOrHold_frame]
  rfl

/-- The answers owed to the WAITING slots. -/
def State.slotsOwed (s : State) : List Owed := s.waitingSlots.filterMap fun i => (s.slots[i]).owed

/-- A warm reset's freeing of the slots (R110). -/
theorem foldl_resetSlot (s : State) : (List.finRange 32).foldl resetSlot s =
    { s with
      cPort := s.placedC ((s.slotsOwed.take (s.freeFor s.slotsOwed.length)).map (s.endAnswer .aborted))
      holdList := s.holdList ++ (s.slotsOwed.drop (s.freeFor s.slotsOwed.length)).map (holdEntry .aborted)
      slots := mapTable Slot.ended s.slots
      freeList := s.freeList ++ s.waitingSlots } := by
  have hended := foldl_waiting (turn := resetSlot)
    (act := fun x t i => freeRecord x (answerOrHold x .aborted t) i) (fun t i => rfl)
    (fun x t i j hj => by
      show (setAt (answerOrHold x .aborted t).slots i x.freed)[j] = _
      rw [answerOrHold_slots, setAt_get_ne _ _ hj])
    (List.nodup_finRange 32) s
  have hsplit := foldl_both (f := fun t i => answerOrHold s.slots[i] .aborted t)
    (g := fun t i => freeRecord s.slots[i] t i)
    (fun t i j => freeRecord_answerOrHold s.slots[i] s.slots[j] .aborted t i) s.waitingSlots s
  rw [hended]
  refine hsplit.trans ?_
  rw [foldl_freeRecord (fun i => s.slots[i]), foldl_answerOrHold .aborted (fun i => s.slots[i])]
  simp only [State.setSlots, State.setFreeList, foldl_freed_waitingSlots]
  rfl

/-! ## RESET(WARM) -/

theorem freeFor_of_up {s : State} (h : s.cUp = true) (n : Nat) : s.freeFor n = 16 - s.cPort.tx.length := by
  rw [State.freeFor, h]
  rfl

theorem freeFor_of_down {s : State} (h : s.cUp = false) (n : Nat) : s.freeFor n = n := by
  rw [State.freeFor, h]
  rfl

theorem placedC_of_up {s : State} (h : s.cUp = true) (pkts : List Packet) :
    s.placedC pkts = { s.cPort with tx := s.cPort.tx ++ pkts } := by
  rw [State.placedC, h]
  rfl

theorem placedC_of_down {s : State} (h : s.cUp = false) (pkts : List Packet) : s.placedC pkts = s.cPort := by
  rw [State.placedC, h]
  rfl

/-- The answers owed to the items of the park queue. -/
def State.itemsOwed (s : State) : List Owed := s.park.filterMap ParkItem.owed

/-- The free places for every answer of a warm reset, and those that the items leave to the slots. -/
def State.resetFree (s : State) : Nat := s.freeFor (s.itemsOwed.length + s.slotsOwed.length)

def State.resetAborts (s : State) : List AbortEntry :=
  s.abortList ++ (s.itemsOwed.drop s.resetFree).map (abortEntry false)

def State.resetHolds (s : State) : List HoldEntry :=
  s.holdList ++ (s.slotsOwed.drop (s.resetFree - s.itemsOwed.length)).map (holdEntry .aborted)

def State.resetPlaced (s : State) : List Packet :=
  (s.itemsOwed.take s.resetFree ++ s.slotsOwed.take (s.resetFree - s.itemsOwed.length)).map (s.endAnswer .aborted)

/-- A reply that a warm reset lists waits for the reset's own answers (R147). -/
def State.resetReply (s : State) (pkt : Packet) : Reply :=
  { packet := pkt
    abortAhead := waitsFor s.abortList.length s.resetAborts.length
    holdAhead := waitsFor s.holdList.length s.resetHolds.length }

theorem take_resetFree (s : State) : s.itemsOwed.take (s.freeFor s.itemsOwed.length) = s.itemsOwed.take s.resetFree ∧
    s.itemsOwed.drop (s.freeFor s.itemsOwed.length) = s.itemsOwed.drop s.resetFree := by
  cases hup : s.cUp with
  | true => rw [State.resetFree, freeFor_of_up hup, freeFor_of_up hup]; exact ⟨rfl, rfl⟩
  | false =>
    rw [State.resetFree, freeFor_of_down hup, freeFor_of_down hup, List.take_length, List.drop_length,
      List.take_of_length_le (Nat.le_add_right _ _), List.drop_of_length_le (Nat.le_add_right _ _)]
    exact ⟨rfl, rfl⟩

/-- Steps 1 and 2 of R154: the items and then the slots are answered and ended. -/
theorem foldl_resetSlot_abortPark (s : State) : (List.finRange 32).foldl resetSlot (abortPark false s) =
    { s with
      park := []
      abortList := s.resetAborts
      holdList := s.resetHolds
      cPort := s.placedC s.resetPlaced
      slots := mapTable Slot.ended s.slots
      freeList := s.freeList ++ s.waitingSlots } := by
  obtain ⟨htake, hdrop⟩ := take_resetFree s
  have habort : abortPark false s =
      { s with
        park := []
        cPort := s.placedC ((s.itemsOwed.take s.resetFree).map (s.endAnswer .aborted))
        abortList := s.resetAborts } := by
    rw [State.resetAborts, ← htake, ← hdrop, abortPark_eq]
    rfl
  have hup : (abortPark false s).cUp = s.cUp := by
    rw [habort]
    exact placedC_isUp ..
  have hslots : (abortPark false s).slotsOwed = s.slotsOwed := by
    rw [habort]
    rfl
  have hwaiting : (abortPark false s).waitingSlots = s.waitingSlots := by
    rw [habort]
    rfl
  have hfree : (abortPark false s).freeFor s.slotsOwed.length = s.resetFree - s.itemsOwed.length := by
    cases hs : s.cUp with
    | false =>
      rw [freeFor_of_down (hup.trans hs), State.resetFree, freeFor_of_down hs, Nat.add_sub_cancel_left]
    | true =>
      rw [freeFor_of_up (hup.trans hs), habort, placedC_of_up hs, List.length_append, List.length_map,
        List.length_take, State.resetFree, freeFor_of_up hs]
      omega
  have hplaced : ∀ pkts, (abortPark false s).placedC pkts =
      s.placedC ((s.itemsOwed.take s.resetFree).map (s.endAnswer .aborted) ++ pkts) := fun pkts => by
    cases hs : s.cUp with
    | false =>
      rw [placedC_of_down (hup.trans hs), habort, placedC_of_down hs, placedC_of_down hs]
    | true =>
      rw [placedC_of_up (hup.trans hs), habort, placedC_of_up hs, placedC_of_up hs, List.append_assoc]
  have hanswer : (abortPark false s).endAnswer .aborted = s.endAnswer .aborted := by
    rw [habort]
    rfl
  rw [foldl_resetSlot, hslots, hwaiting, hfree, hplaced, hanswer, ← List.map_append, ← State.resetPlaced, habort]
  rfl

/-- The reply that a warm reset makes due for the long operation it ends (R154 step 5). -/
def State.endedReply (s : State) : List Packet :=
  match s.longOp with
  | .idle => []
  | .retire src tag retired widened =>
    [mreplyPacket s src tag 0x09 .aborted [BitVec.ofNat 8 retired, flagByte widened]]
  | .setMode src tag oldMode marked =>
    [mreplyPacket s src tag 0x0A .aborted [BitVec.ofNat 8 oldMode.code, BitVec.ofNat 8 marked]]

theorem abortLongOp_eq (abortAhead holdAhead : Nat) (s : State) : abortLongOp abortAhead holdAhead s =
    { s with
      longOp := .idle
      replies := if s.cUp then s.replies ++ s.endedReply.map (fun pkt =>
          { packet := pkt, abortAhead := abortAhead, holdAhead := holdAhead })
        else s.replies } := by
  unfold abortLongOp State.endedReply
  cases hop : s.longOp with
  | idle =>
    simp only [List.map_nil, List.append_nil, ite_self]
    rw [← hop]
  | retire =>
    dsimp only
    rw [listReply_eq]
    rfl
  | setMode =>
    dsimp only
    rw [listReply_eq]
    rfl

/-- The own reply of a warm reset: the items ended and the slots freed (R155). -/
def State.resetOwn (s : State) (p : Packet) : Packet :=
  replyTo p .ok [BitVec.ofNat 8 s.park.length, BitVec.ofNat 8 s.waitingSlots.length] s

/-- The warm reset written out (R154, R155). -/
theorem warmReset_eq (p : Packet) (s : State) : warmReset p s =
    { s with
      park := []
      abortList := s.resetAborts
      holdList := s.resetHolds
      cPort := s.placedC s.resetPlaced
      mPort := { s.mPort with tx := [] }
      slots := mapTable Slot.ended s.slots
      freeList := s.freeList ++ s.waitingSlots
      windows := mapTable WindowEntry.warmReset s.windows
      meters := mapTable Meter.warmReset s.meters
      longOp := .idle
      replies := if s.cUp then s.replies ++ (s.endedReply ++ [s.resetOwn p]).map s.resetReply else s.replies } := by
  have hup : (s.placedC s.resetPlaced).isUp = s.cUp := placedC_isUp ..
  have hreset : warmReset p s = listReply (s.resetOwn p) (waitsFor s.abortList.length s.resetAborts.length)
      (waitsFor s.holdList.length s.resetHolds.length)
      { s with
        park := []
        abortList := s.resetAborts
        holdList := s.resetHolds
        cPort := s.placedC s.resetPlaced
        mPort := { s.mPort with tx := [] }
        slots := mapTable Slot.ended s.slots
        freeList := s.freeList ++ s.waitingSlots
        windows := mapTable WindowEntry.warmReset s.windows
        meters := mapTable Meter.warmReset s.meters
        longOp := .idle
        replies := if (s.placedC s.resetPlaced).isUp then s.replies ++ s.endedReply.map s.resetReply
          else s.replies } := by
    unfold warmReset resetOutstanding
    dsimp only
    rw [foldl_resetSlot_abortPark, trigger_of_empty rfl, ← waitingSlots_length, abortLongOp_eq]
    rfl
  rw [hreset, listReply_eq]
  by_cases h : s.cUp = true
  · have hup' : (s.placedC s.resetPlaced).isUp = true := hup.trans h
    rw [if_pos h, List.map_append, ← List.append_assoc]
    simp only [State.setReplies, State.cUp, if_pos hup']
    rfl
  · have hup' : ¬(s.placedC s.resetPlaced).isUp = true := hup ▸ h
    rw [if_neg h]
    simp only [State.setReplies, State.cUp, if_neg hup']

/-- Settles O53: `warmReset_eq` on the state after the taking. -/
theorem aWarmResetEndsItemsSlotsDrainsAndTheLongOperation :
    Obligations.AWarmResetEndsItemsSlotsDrainsAndTheLongOperation := by
  intro s p h u items waiting slots free left aborts holds listed ended own
  have htaken : exec .resetWarm s = .next (mgmtResetWarm p (takeFromC s)) := exec_of_asks (row := .resetWarm) h rfl
  have hbody : mgmtResetWarm p u = warmReset p u := by
    rw [mgmtResetWarm, withLength_right (by rw [h.payload]; rfl)]
    exact if_pos (by rw [h.payload]; rfl)
  have hup : u.cUp = s.cUp := takeFromC_cUp s
  have hfree : u.resetFree = free := by
    rw [State.resetFree, State.freeFor, hup]
    rfl
  have haborts : u.resetAborts = aborts := by
    rw [State.resetAborts, hfree]
    rfl
  have hholds : u.resetHolds = holds := by
    rw [State.resetHolds, hfree]
    rfl
  have hlisted : u.resetReply = listed := by
    funext pkt
    rw [State.resetReply, haborts, hholds]
    rfl
  have hplaced : u.resetPlaced = (items.take free ++ slots.take left).map fun x =>
      answerPacket s x.1 x.2.1 .aborted x.2.2 [] := by
    rw [State.resetPlaced, hfree]
    rfl
  have hreplies : u.endedReply ++ [u.resetOwn p] = ended ++ [own] := rfl
  rw [htaken, show mgmtResetWarm p (takeFromC s) = warmReset p u from hbody, warmReset_eq, haborts, hholds, hlisted,
    hplaced, hreplies, State.placedC, hup]
  rfl

end Sys2Proof.Machine
end

section
/-! The freeing of slots under the laws of the tables, and the loss of the M-port (R104, R105, R108, R159, R164). -/

namespace Sys2Proof.Machine

/-! ## Freeing a slot keeps the laws of the tables -/

theorem freedTables_window (i : Fin 32) (s : State) (j : Fin 64) : (freedTables i s).windows[j] =
    if (s.slots[i]).window = some j then (s.windows[j]).lowered else s.windows[j] := by
  show (match (s.slots[i]).window with
    | some k => setAt s.windows k (s.windows[k]).lowered
    | none => s.windows)[j] = _
  cases (s.slots[i]).window with
  | none => rfl
  | some k =>
    show (setAt s.windows k (s.windows[k]).lowered)[j] = _
    rw [setAt_get]
    by_cases hj : j = k
    · subst hj
      rw [if_pos rfl, if_pos rfl]
    · rw [if_neg hj, if_neg fun h => hj (Option.some.inj h).symm]

theorem freedTables_slot (i : Fin 32) (s : State) (k : Fin 32) : (freedTables i s).slots[k] =
    if k = i then (s.slots[i]).freed else s.slots[k] := setAt_get _ _ _ _

theorem draining_of_lowered {e : WindowEntry} (h : e.lowered.state = .draining) : e.state = .draining := by
  unfold WindowEntry.lowered at h
  dsimp only at h
  split at h
  · cases h
  · exact h

theorem anyDraining_of_freedTables {i : Fin 32} {s : State} (h : (freedTables i s).anyDraining = true) :
    s.anyDraining = true := by
  rw [anyDraining_iff] at h ⊢
  obtain ⟨j, hj⟩ := h
  rw [freedTables_window] at hj
  split at hj
  · exact ⟨j, draining_of_lowered hj⟩
  · exact ⟨j, hj⟩

theorem anyMarked_of_freedTables {i : Fin 32} {s : State} (h : (freedTables i s).anyMarked = true) :
    s.anyMarked = true := by
  rw [anyMarked_iff] at h ⊢
  obtain ⟨k, hk⟩ := h
  rw [freedTables_slot] at hk
  split at hk
  · cases hk
  · exact ⟨k, hk⟩

/-- The reply of a long operation that ends drained (R23, R66, R147). -/
def State.doneReply (s : State) : List Reply :=
  match s.longOp with
  | .idle => []
  | .retire src tag retired widened =>
    if s.cUp then
      [{ abortAhead := 0, holdAhead := 0,
         packet := mreplyPacket s src tag 0x09 .ok [BitVec.ofNat 8 retired, flagByte widened] }]
    else []
  | .setMode src tag oldMode marked =>
    if s.cUp then
      [{ abortAhead := 0, holdAhead := 0,
         packet := mreplyPacket s src tag 0x0A .ok [BitVec.ofNat 8 oldMode.code, BitVec.ofNat 8 marked] }]
    else []

theorem endLongOp_replies (s : State) (src : SourceId) (tag : Tag) (code : Byte) (results : List Byte) :
    (s.endLongOp src tag code results).replies = s.replies ++
      if s.cUp then
        [{ abortAhead := 0, holdAhead := 0, packet := mreplyPacket s src tag code .ok results }] else [] := by
  unfold State.endLongOp
  cases s.cUp with
  | false => exact (List.append_nil _).symm
  | true => rfl

/-- The freeing of a slot ends the long operation exactly when it leaves nothing of it (R105). -/
theorem freeSlot_longOp (i : Fin 32) (s : State) :
    ((freeSlot i s).longOp = s.longOp ∧ (freeSlot i s).replies = s.replies ∧
      (s.longOp.isRetire = true → (freedTables i s).anyDraining = true) ∧
      (s.longOp.isSetMode = true → (freedTables i s).anyMarked = true)) ∨
    ((freeSlot i s).longOp = .idle ∧ (freeSlot i s).replies = s.replies ++ s.doneReply ∧
      (s.longOp.isRetire = true → (freedTables i s).anyDraining = false) ∧
      (s.longOp.isSetMode = true → (freedTables i s).anyMarked = false)) := by
  cases hop : s.longOp with
  | idle =>
    rw [freeSlot_of_idle hop]
    exact .inl ⟨hop, rfl, fun h => (by cases h), fun h => (by cases h)⟩
  | retire src tag retired widened =>
    rw [freeSlot_of_retire (by rw [hop]; rfl)]
    cases hdrain : (freedTables i s).anyDraining with
    | true =>
      rw [completeRetire_of_draining hdrain]
      exact .inl ⟨hop, rfl, fun _ => rfl, fun h => (by cases h)⟩
    | false =>
      rw [completeRetire_of_drained (s := freedTables i s) hop hdrain, endLongOp_replies, State.doneReply, hop]
      exact .inr ⟨rfl, rfl, fun _ => rfl, fun h => (by cases h)⟩
  | setMode src tag oldMode marked =>
    rw [freeSlot_of_setMode (by rw [hop]; rfl)]
    cases hmark : (freedTables i s).anyMarked with
    | true =>
      rw [completeSetMode_of_marked hmark]
      exact .inl ⟨hop, rfl, fun h => (by cases h), fun _ => rfl⟩
    | false =>
      rw [completeSetMode_of_drained (s := freedTables i s) hop hmark, endLongOp_replies, State.doneReply, hop]
      exact .inr ⟨rfl, rfl, fun h => (by cases h), fun _ => rfl⟩

theorem bool_eq_of_imp {a b : Bool} (hab : a = true → b = true) (hba : b = true → a = true) : a = b :=
  Bool.eq_iff_iff.mpr ⟨hab, hba⟩

theorem freeSlot_longLaw {i : Fin 32} {s : State} (h : s.LongOpLaw) : (freeSlot i s).LongOpLaw := by
  have hdraining : (freeSlot i s).anyDraining = (freedTables i s).anyDraining := by rw [freeSlot_frame]; rfl
  have hmarked : (freeSlot i s).anyMarked = (freedTables i s).anyMarked := by rw [freeSlot_frame]; rfl
  have hdrain : (freedTables i s).anyDraining = true → s.longOp.isRetire = true := fun hd =>
    h.retire.trans (anyDraining_of_freedTables hd)
  have hmark : (freedTables i s).anyMarked = true → s.longOp.isSetMode = true := fun hm =>
    h.setMode.trans (anyMarked_of_freedTables hm)
  rcases freeSlot_longOp i s with ⟨hop, -, hretire, hmode⟩ | ⟨hop, -, hretire, hmode⟩
  · exact ⟨by rw [hop, hdraining]; exact bool_eq_of_imp hretire hdrain,
      by rw [hop, hmarked]; exact bool_eq_of_imp hmode hmark⟩
  · refine ⟨?_, ?_⟩
    · rw [hop, hdraining]
      refine (Bool.eq_false_iff.mpr fun hd => ?_).symm
      rw [hretire (hdrain hd)] at hd
      cases hd
    · rw [hop, hmarked]
      refine (Bool.eq_false_iff.mpr fun hm => ?_).symm
      rw [hmode (hmark hm)] at hm
      cases hm

theorem freeSlot_slot (i : Fin 32) (s : State) (k : Fin 32) : (freeSlot i s).slots[k] =
    if k = i then (s.slots[i]).freed else s.slots[k] := by
  rw [freeSlot_slots, setAt_get]

theorem freeSlot_window (i : Fin 32) (s : State) (j : Fin 64) : (freeSlot i s).windows[j] =
    if (s.slots[i]).window = some j then (s.windows[j]).lowered else s.windows[j] := by
  rw [← freedTables_window, freeSlot_frame]
  rfl

theorem freeSlot_slotsLaw {i : Fin 32} {s : State} (h : s.SlotsLaw) (hwaiting : (s.slots[i]).state = .waiting) :
    (freeSlot i s).SlotsLaw := by
  have hlisted : i ∉ s.freeList := fun hi => by
    rw [(h.free_iff i).mp hi] at hwaiting
    cases hwaiting
  refine ⟨?_, fun k => ?_, fun k => ?_, fun k => ?_⟩
  · rw [freeSlot_freeList]
    exact h.nodup.append (List.nodup_singleton i) (List.disjoint_singleton.mpr hlisted)
  · rw [freeSlot_freeList, freeSlot_slot, List.mem_append, List.mem_singleton]
    by_cases hk : k = i
    · rw [if_pos hk]
      exact ⟨fun _ => rfl, fun _ => .inr hk⟩
    · rw [if_neg hk, ← h.free_iff]
      exact ⟨fun hmem => hmem.resolve_right hk, .inl⟩
  · rw [freeSlot_slot]
    split
    · intro hoverdue
      cases hoverdue
    · exact h.overdue k
  · rw [freeSlot_slot]
    split
    · intro hmarked
      cases hmarked
    · exact h.marked k

theorem references_iff (j : Fin 64) (x : Slot) : x.references j = true ↔ x.state = .waiting ∧ x.window = some j := by
  simp only [Slot.references, Bool.and_eq_true, beq_iff_eq]

theorem freeSlot_flightLaw {i : Fin 32} {s : State} (h : s.FlightLaw) (hwaiting : (s.slots[i]).state = .waiting) :
    (freeSlot i s).FlightLaw := by
  refine ⟨fun j => ?_, fun j => ?_, fun j => ?_⟩
  · have hcount := countTable_setAt (Slot.references j) s.slots i (s.slots[i]).freed
    have hfreed : Slot.references j (s.slots[i]).freed = false := rfl
    have hbefore := h.count j
    rw [hfreed] at hcount
    rw [freeSlot_window, freeSlot_slots]
    by_cases hj : (s.slots[i]).window = some j
    · rw [(references_iff j _).mpr ⟨hwaiting, hj⟩] at hcount
      rw [if_pos hj]
      show (s.windows[j]).inFlight - 1 = _
      simp only [Bool.toNat_true, Bool.toNat_false] at hcount
      omega
    · have hnone : Slot.references j s.slots[i] = false :=
        Bool.eq_false_iff.mpr fun href => hj ((references_iff j _).mp href).2
      rw [hnone] at hcount
      rw [if_neg hj, hbefore]
      simpa using hcount.symm
  · rw [freeSlot_window]
    split
    · unfold WindowEntry.lowered
      dsimp only
      split
      next hend => exact fun _ => hend.2
      next =>
        intro hfree
        rw [h.free j hfree]
    · exact h.free j
  · rw [freeSlot_window]
    split
    · unfold WindowEntry.lowered
      dsimp only
      split
      next => exact fun hdraining => by cases hdraining
      next hgoes => exact fun hdraining hzero => hgoes ⟨hdraining, hzero⟩
    · exact h.draining j

/-- A WAITING slot may be freed under the laws of the tables (R104, R105). -/
theorem freeSlot_tableLaw {i : Fin 32} {s : State} (h : s.TableLaw) (hwaiting : (s.slots[i]).state = .waiting) :
    (freeSlot i s).TableLaw :=
  ⟨freeSlot_slotsLaw h.slots hwaiting, freeSlot_flightLaw h.flight hwaiting, freeSlot_longLaw h.long⟩

/-- The laws of the tables look at the slots, the free list, the windows and the long operation. -/
theorem tableLaw_congr {s t : State} (h : s.TableLaw) (hslots : t.slots = s.slots) (hfree : t.freeList = s.freeList)
    (hwindows : t.windows = s.windows) (hlong : t.longOp = s.longOp) : t.TableLaw := by
  obtain ⟨⟨nodup, free_iff, overdue, marked⟩, ⟨count, free, draining⟩, ⟨retire, setMode⟩⟩ := h
  refine ⟨⟨?_, ?_, ?_, ?_⟩, ⟨?_, ?_, ?_⟩, ⟨?_, ?_⟩⟩ <;>
    simp only [hslots, hfree, hwindows, hlong, State.anyDraining, State.anyMarked] <;> assumption

/-! ## The loss of every slot -/

/-- Two folds whose turns act alike on a part of the state end alike on it. -/
theorem foldl_sim {α β : Type} {view : State → β} {f g : State → α → State}
    (hsim : ∀ s t x, view s = view t → view (f s x) = view (g t x)) (l : List α) {s t : State} (h : view s = view t) :
    view (l.foldl f s) = view (l.foldl g t) := by
  induction l generalizing s t with
  | nil => exact h
  | cons x l ih => exact ih (hsim s t x h)

/-- What a recording looks at and changes. -/
def State.logView (s : State) : Bool × Tick × FaultLog × AlertCtl := (s.cUp, s.tick, s.log, s.alert)

/-- What an answer of a slot looks at and changes. -/
def State.answerView (s : State) : Straps × PortState × List HoldEntry := (s.straps, s.cPort, s.holdList)

theorem recordFault_logView {s t : State} (f : FaultInfo) (h : s.logView = t.logView) :
    (recordFault f s).logView = (recordFault f t).logView := by
  simp only [State.logView, Prod.mk.injEq] at h
  obtain ⟨hup, htick, hlog, halert⟩ := h
  rw [recordFault_eq, recordFault_eq, hup, htick, hlog, halert]
  simp only [State.logView, State.cUp, State.setLog, State.setAlert, htick]
  rw [show s.cPort.isUp = t.cPort.isUp from hup]

theorem recordFault_answerView (f : FaultInfo) (s : State) : (recordFault f s).answerView = s.answerView := by
  rw [recordFault_eq]
  rfl

theorem answerOrHold_answerView {s t : State} (x : Slot) (status : AnswerStatus) (h : s.answerView = t.answerView) :
    (answerOrHold x status s).answerView = (answerOrHold x status t).answerView := by
  simp only [State.answerView, Prod.mk.injEq] at h
  obtain ⟨hstraps, hport, hheld⟩ := h
  rw [answerOrHold_eq, answerOrHold_eq]
  cases x.owed with
  | none => simp only [Option.map_none, Option.getD_none, State.answerView, hstraps, hport, hheld]
  | some y =>
    have hfree : s.cFree = t.cFree := by rw [State.cFree, State.cFree, State.cUp, State.cUp, hport]
    have hpacket : s.endAnswer status y = t.endAnswer status y := by
      unfold State.endAnswer answerPacket
      rw [hstraps]
    show (holdOwed status s y).answerView = (holdOwed status t y).answerView
    unfold holdOwed WaitList.placeOrWait
    rw [hfree, hpacket]
    split
    · rw [placeC_eq, placeC_eq]
      simp only [State.answerView, State.setCPort, State.cUp, hstraps, hport, hheld]
      rfl
    · simp only [State.answerView, WaitList.holds, State.setHoldList, hstraps, hport, hheld]

theorem answerOrHold_cUp (x : Slot) (status : AnswerStatus) (s : State) : (answerOrHold x status s).cUp = s.cUp := by
  rw [answerOrHold_eq]
  cases x.owed with
  | none => rfl
  | some y =>
    show (holdOwed status s y).cUp = s.cUp
    unfold holdOwed WaitList.placeOrWait
    split
    · exact placeC_cUp ..
    · rfl

theorem answerOrHold_logView (x : Slot) (status : AnswerStatus) (s : State) :
    (answerOrHold x status s).logView = s.logView := by
  have hup := answerOrHold_cUp x status s
  rw [State.logView, hup, answerOrHold_frame]
  rfl

theorem freeSlot_logView (i : Fin 32) (s : State) : (freeSlot i s).logView = s.logView := by
  rw [freeSlot_frame]
  rfl

theorem freeSlot_answerView (i : Fin 32) (s : State) : (freeSlot i s).answerView = s.answerView := by
  rw [freeSlot_frame]
  rfl

/-- The fault of a WAITING slot that the M-port loses (R108). -/
def lostFault (x : Slot) : FaultInfo := slotFault .targetLost .nowhere x

/-- A WAITING slot's part of the loss (R108): its record is that of the beginning. -/
def loseRecord (x : Slot) (s : State) (i : Fin 32) : State :=
  freeSlot i (recordFault (lostFault x) (answerOrHold x .targetLost s))

theorem loseSlot_eq (s : State) (i : Fin 32) :
    loseSlot s i = if (s.slots[i]).state = .waiting then loseRecord s.slots[i] s i else s := rfl

theorem loseRecord_slot (x : Slot) (s : State) (i k : Fin 32) : (loseRecord x s i).slots[k] =
    if k = i then (s.slots[i]).freed else s.slots[k] := by
  rw [loseRecord, freeSlot_slot, recordFault_slots, answerOrHold_slots]

theorem foldl_loseSlot (s : State) : (List.finRange 32).foldl loseSlot s =
    s.waitingSlots.foldl (fun t i => loseRecord s.slots[i] t i) s :=
  foldl_waiting loseSlot_eq (fun x t i j hj => by rw [loseRecord_slot, if_neg hj]) (List.nodup_finRange 32) s

/-- The loss of every WAITING slot. -/
def State.slotsLost (s : State) : State := (List.finRange 32).foldl loseSlot s

/-- What no freed, answered or recorded slot changes. -/
def State.backdrop (s : State) :
    Standing × List ParkItem × List AbortEntry × Vector Meter 4 × Producer × Nat × PortState :=
  (s.standing, s.park, s.abortList, s.meters, s.nextProducer, s.slotTriggersDue, s.mPort)

theorem freeSlot_backdrop (i : Fin 32) (s : State) : (freeSlot i s).backdrop = s.backdrop := by
  rw [freeSlot_frame]
  rfl

theorem recordFault_backdrop (f : FaultInfo) (s : State) : (recordFault f s).backdrop = s.backdrop := by
  rw [recordFault_eq]
  rfl

theorem answerOrHold_backdrop (x : Slot) (status : AnswerStatus) (s : State) :
    (answerOrHold x status s).backdrop = s.backdrop := by
  rw [answerOrHold_frame]
  rfl

theorem slotsLost_backdrop (s : State) : s.slotsLost.backdrop = s.backdrop := by
  refine foldl_keeps (P := fun t => t.backdrop = s.backdrop) (fun t i ht => ?_) _ s rfl
  rw [loseSlot_eq]
  split
  · rw [loseRecord, freeSlot_backdrop, recordFault_backdrop, answerOrHold_backdrop, ht]
  · exact ht

theorem slotsLost_slot (s : State) (k : Fin 32) : s.slotsLost.slots[k] = (s.slots[k]).ended := by
  have hfold : ∀ (l : List (Fin 32)) (t : State), l.Nodup →
      (l.foldl loseSlot t).slots[k] = if k ∈ l then (t.slots[k]).ended else t.slots[k] := by
    intro l
    induction l with
    | nil => exact fun t _ => rfl
    | cons i l ih =>
      intro t hnodup
      obtain ⟨hi, hl⟩ := List.nodup_cons.mp hnodup
      have hone : (loseSlot t i).slots[k] = if k = i then (t.slots[i]).ended else t.slots[k] := by
        rw [loseSlot_eq, Slot.ended]
        by_cases hwaiting : (t.slots[i]).state = .waiting
        · rw [if_pos hwaiting, if_pos hwaiting, loseRecord_slot]
        · rw [if_neg hwaiting, if_neg hwaiting]
          split
          next h => rw [h]
          next => rfl
      rw [List.foldl_cons, ih _ hl, hone]
      by_cases hk : k = i
      · subst hk
        rw [if_neg hi, if_pos rfl, if_pos (List.mem_cons_self ..)]
      · rw [if_neg hk]
        simp only [List.mem_cons, hk, false_or]
  rw [State.slotsLost, hfold _ s (List.nodup_finRange 32), if_pos (List.mem_finRange k)]

theorem slotsLost_freeList (s : State) : s.slotsLost.freeList = s.freeList ++ s.waitingSlots := by
  have hfold : ∀ (l : List (Fin 32)) (t : State),
      (l.foldl (fun t i => loseRecord s.slots[i] t i) t).freeList = t.freeList ++ l := by
    intro l
    induction l with
    | nil => exact fun t => (List.append_nil _).symm
    | cons i l ih =>
      intro t
      have hone : (loseRecord s.slots[i] t i).freeList = t.freeList ++ [i] := by
        rw [loseRecord, freeSlot_freeList, recordFault_freeList, answerOrHold_frame]
        rfl
      rw [List.foldl_cons, ih, hone, List.append_assoc]
      rfl
  rw [State.slotsLost, foldl_loseSlot, hfold]

theorem slotsLost_logView (s : State) : s.slotsLost.logView =
    ((s.waitingSlots.map fun i => lostFault s.slots[i]).foldl (fun u fault => recordFault fault u) s).logView := by
  rw [State.slotsLost, foldl_loseSlot, List.foldl_map]
  refine foldl_sim (fun t u i h => ?_) _ rfl
  rw [loseRecord, freeSlot_logView]
  exact recordFault_logView _ ((answerOrHold_logView _ _ t).trans h)

theorem slotsLost_answerView (s : State) : s.slotsLost.answerView =
    (s.waitingSlots.foldl (fun t i => answerOrHold s.slots[i] .targetLost t) s).answerView := by
  rw [State.slotsLost, foldl_loseSlot]
  refine foldl_sim (fun t u i h => ?_) _ rfl
  rw [loseRecord, freeSlot_answerView, recordFault_answerView]
  exact answerOrHold_answerView _ _ h

theorem loseRecord_tableLaw {s : State} {i : Fin 32} (h : s.TableLaw) (hwaiting : (s.slots[i]).state = .waiting)
    (x : Slot) : (loseRecord x s i).TableLaw := by
  have hslots : (recordFault (lostFault x) (answerOrHold x .targetLost s)).slots = s.slots := by
    rw [recordFault_slots, answerOrHold_slots]
  have hfree : (recordFault (lostFault x) (answerOrHold x .targetLost s)).freeList = s.freeList := by
    rw [recordFault_freeList, answerOrHold_frame]
    rfl
  have hwindows : (recordFault (lostFault x) (answerOrHold x .targetLost s)).windows = s.windows := by
    rw [recordFault_windows, answerOrHold_frame]
    rfl
  have hlong : (recordFault (lostFault x) (answerOrHold x .targetLost s)).longOp = s.longOp := by
    rw [recordFault_longOp, answerOrHold_frame]
    rfl
  refine freeSlot_tableLaw (tableLaw_congr h hslots hfree hwindows hlong) ?_
  rw [hslots]
  exact hwaiting

theorem loseSlot_tableLaw {s : State} (h : s.TableLaw) (i : Fin 32) : (loseSlot s i).TableLaw := by
  rw [loseSlot_eq]
  split
  next hwaiting => exact loseRecord_tableLaw h hwaiting _
  next => exact h

theorem slotsLost_tableLaw {s : State} (h : s.TableLaw) : s.slotsLost.TableLaw :=
  foldl_keeps (P := State.TableLaw) (fun _ i ht => loseSlot_tableLaw ht i) _ s h

theorem ended_state (x : Slot) : x.ended.state = .free := by
  unfold Slot.ended
  split
  · rfl
  next h =>
    cases hx : x.state with
    | free => rfl
    | waiting => exact absurd hx h

theorem slotsLost_free (s : State) (k : Fin 32) : (s.slotsLost.slots[k]).state = .free := by
  rw [slotsLost_slot]
  exact ended_state _

/-- Under the laws of the tables nothing of a long operation outlives the slots (R108). -/
theorem slotsLost_drained {s : State} (h : s.TableLaw) : (∀ j : Fin 64, (s.slotsLost.windows[j]).inFlight = 0) ∧
    s.slotsLost.anyDraining = false ∧ s.slotsLost.anyMarked = false ∧ s.slotsLost.longOp = .idle := by
  have hlaw := slotsLost_tableLaw h
  have hzero : ∀ j : Fin 64, (s.slotsLost.windows[j]).inFlight = 0 := fun j => by
    rw [hlaw.flight.count, countTable_eq, List.countP_eq_zero]
    intro k _ href
    have hwaiting := ((references_iff j _).mp href).1
    rw [slotsLost_free] at hwaiting
    cases hwaiting
  have hdraining : s.slotsLost.anyDraining = false := by
    rw [anyDraining_eq_false_iff]
    exact fun j hj => hlaw.flight.draining j hj (hzero j)
  have hmarked : s.slotsLost.anyMarked = false := by
    rw [anyMarked_eq_false_iff]
    intro k
    refine Bool.eq_false_iff.mpr fun hmark => ?_
    have hwaiting := hlaw.slots.marked k hmark
    rw [slotsLost_free] at hwaiting
    cases hwaiting
  refine ⟨hzero, hdraining, hmarked, ?_⟩
  have hretire := hlaw.long.retire.trans hdraining
  have hmode := hlaw.long.setMode.trans hmarked
  cases hop : s.slotsLost.longOp with
  | idle => rfl
  | retire => rw [hop] at hretire; cases hretire
  | setMode => rw [hop] at hmode; cases hmode

/-- What the loss of the slots may do to a window: its count falls, and a DRAINING entry may become FREE (R9). -/
def WindowEntry.LoweredFrom (e f : WindowEntry) : Prop :=
  f = { e with inFlight := f.inFlight, state := f.state } ∧
    (f.state = e.state ∨ (e.state = .draining ∧ f.state = .free))

theorem loweredFrom_lowered {e f : WindowEntry} (h : e.LoweredFrom f) : e.LoweredFrom f.lowered := by
  obtain ⟨hfields, hstate⟩ := h
  refine ⟨?_, ?_⟩
  · unfold WindowEntry.lowered
    rw [hfields]
  · unfold WindowEntry.lowered
    dsimp only
    split
    next hend => exact .inr ⟨hstate.elim (fun h => h.symm.trans hend.1) fun h => h.1, rfl⟩
    next => exact hstate

theorem slotsLost_loweredFrom (s : State) (j : Fin 64) : (s.windows[j]).LoweredFrom s.slotsLost.windows[j] := by
  refine foldl_keeps (P := fun t => (s.windows[j]).LoweredFrom t.windows[j]) (fun t i ht => ?_) _ s ⟨rfl, .inl rfl⟩
  rw [loseSlot_eq]
  split
  · have hwindows : (recordFault (lostFault t.slots[i]) (answerOrHold t.slots[i] .targetLost t)).windows = t.windows := by
      rw [recordFault_windows, answerOrHold_frame]
      rfl
    rw [loseRecord, freeSlot_window, hwindows]
    split
    · exact loweredFrom_lowered ht
    · exact ht
  · exact ht

/-- Under the laws of the tables the windows after the loss are known (R108, R9). -/
theorem slotsLost_window {s : State} (h : s.TableLaw) (j : Fin 64) : s.slotsLost.windows[j] =
    { s.windows[j] with
      inFlight := 0, state := if (s.windows[j]).state = .draining then .free else (s.windows[j]).state } := by
  obtain ⟨hzero, hdraining, -, -⟩ := slotsLost_drained h
  obtain ⟨hfields, hstate⟩ := slotsLost_loweredFrom s j
  have hnot : (s.slotsLost.windows[j]).state ≠ .draining := (anyDraining_eq_false_iff _).mp hdraining j
  have hend : (s.slotsLost.windows[j]).state =
      if (s.windows[j]).state = .draining then .free else (s.windows[j]).state := by
    split
    next hdrain => exact (hstate.resolve_left fun hsame => hnot (hsame.trans hdrain)).2
    next hother => exact hstate.resolve_right fun hends => hother hends.1
  rw [hfields, hzero j, hend]

/-- The loss of the slots lists at most the reply of the long operation. -/
theorem slotsLost_replies (s : State) : (s.slotsLost.longOp = s.longOp ∧ s.slotsLost.replies = s.replies) ∨
    (s.slotsLost.longOp = .idle ∧ s.slotsLost.replies = s.replies ++ s.doneReply) := by
  refine (foldl_keeps (P := fun t => (t.straps = s.straps ∧ t.cUp = s.cUp) ∧
    ((t.longOp = s.longOp ∧ t.replies = s.replies) ∨
    (t.longOp = .idle ∧ t.replies = s.replies ++ s.doneReply))) (fun t i ht => ?_) _ s ⟨⟨rfl, rfl⟩, .inl ⟨rfl, rfl⟩⟩).2
  obtain ⟨⟨hstraps, hup⟩, hlong⟩ := ht
  rw [loseSlot_eq]
  split
  · have hu : ∃ u, loseRecord t.slots[i] t i = freeSlot i u ∧ u.straps = t.straps ∧ u.cUp = t.cUp ∧
        u.longOp = t.longOp ∧ u.replies = t.replies := by
      refine ⟨_, rfl, ?_, ?_, ?_, ?_⟩
      · rw [recordFault_eq, answerOrHold_frame]
        rfl
      · exact (congrArg PortState.isUp (recordFault_cPort _ _)).trans (answerOrHold_cUp _ _ t)
      · rw [recordFault_longOp, answerOrHold_frame]
        rfl
      · rw [recordFault_replies, answerOrHold_frame]
        rfl
    obtain ⟨u, hturn, hustraps, huup, hulong, hureplies⟩ := hu
    have hkeep : (freeSlot i u).straps = s.straps ∧ (freeSlot i u).cUp = s.cUp := by
      rw [freeSlot_frame]
      exact ⟨hustraps.trans hstraps, huup.trans hup⟩
    have hdone : u.longOp = s.longOp → u.doneReply = s.doneReply := fun hop => by
      unfold State.doneReply mreplyPacket
      rw [hop, huup.trans hup, hustraps.trans hstraps]
    rw [hturn]
    refine ⟨hkeep, ?_⟩
    rcases freeSlot_longOp i u with ⟨hop, hreplies, -, -⟩ | ⟨hop, hreplies, -, -⟩
    · rw [hop, hreplies, hulong, hureplies]
      exact hlong
    · rcases hlong with ⟨hsame, hsamereplies⟩ | ⟨hidle, hlisted⟩
      · refine .inr ⟨hop, ?_⟩
        rw [hreplies, hureplies, hsamereplies, hdone (hulong.trans hsame)]
      · refine .inr ⟨hop, ?_⟩
        have hnone : u.doneReply = [] := by
          unfold State.doneReply
          rw [hulong.trans hidle]
        rw [hreplies, hureplies, hlisted, hnone, List.append_nil]
  · exact ⟨⟨hstraps, hup⟩, hlong⟩

theorem slotsLost_replies_of_law {s : State} (h : s.TableLaw) : s.slotsLost.replies = s.replies ++ s.doneReply := by
  obtain ⟨-, -, -, hidle⟩ := slotsLost_drained h
  rcases slotsLost_replies s with ⟨hop, hreplies⟩ | ⟨-, hreplies⟩
  · have hnone : s.doneReply = [] := by
      unfold State.doneReply
      rw [← hop, hidle]
    rw [hreplies, hnone, List.append_nil]
  · exact hreplies

/-! ## The M-port's loss -/

/-- A state without its log and its alert controller. -/
def State.unlogged (s : State) : State := { s with log := FaultLog.powerOn, alert := default }

theorem fields_of_unlogged {s t : State} (h : s.unlogged = t.unlogged) :
    s.backdrop = t.backdrop ∧ s.answerView = t.answerView ∧ s.slots = t.slots ∧ s.freeList = t.freeList ∧
      s.windows = t.windows ∧ s.longOp = t.longOp ∧ s.replies = t.replies := by
  have hback := congrArg State.backdrop h
  have hview := congrArg State.answerView h
  have hslots := congrArg State.slots h
  have hfree := congrArg State.freeList h
  have hwindows := congrArg State.windows h
  have hlong := congrArg State.longOp h
  have hreplies := congrArg State.replies h
  exact ⟨hback, hview, hslots, hfree, hwindows, hlong, hreplies⟩

theorem foldl_recordFault_unlogged (l : List FaultInfo) (s : State) :
    (l.foldl (fun u fault => recordFault fault u) s).unlogged = s.unlogged := by
  refine foldl_keeps (P := fun t => t.unlogged = s.unlogged) (fun t f ht => ?_) l s rfl
  rw [← ht, recordFault_eq]
  rfl

/-- The state of an M-port loss before its SLOT trigger (R108, R164). -/
def State.mLost (s : State) (after : Training) : State :=
  ((s.mPort.tx.filter fun pkt => pkt.kind == .post).map postLostFault).foldl (fun u fault => recordFault fault u)
    (s.setMPort (s.mPort.leaveUp after)).slotsLost

theorem mPortLeavesUp_eq (after : Training) (s : State) :
    mPortLeavesUp after s = trigger (· == .slot) (s.mLost after) := by
  rw [State.mLost, List.foldl_map]
  rfl

theorem owed_eq (x : Slot) : x.owed =
    if (decide (x.kind ≠ .confirm) && x.upTag.isSome) = true then some (x.origin, x.upTag.getD 0, x.length)
    else none := by
  unfold Slot.owed
  cases x.kind <;> cases x.upTag <;> rfl

theorem filterMap_ite {α β : Type} (q : α → Bool) (f : α → β) (l : List α) :
    (l.filterMap fun x => if q x = true then some (f x) else none) = (l.filter q).map f := by
  induction l with
  | nil => rfl
  | cons x l ih =>
    rw [List.filterMap_cons, List.filter_cons, ih]
    cases q x <;> rfl

/-- Settles O15: `mLost` is the state before the trigger; each of its items by the lemmas on the loss of the slots. -/
theorem theLossOfTheMPortFreesEverySlotWithTargetLost : Obligations.TheLossOfTheMPortFreesEverySlotWithTargetLost := by
  intro after s hafter hlaw answered faults free
  have hlaw' : (s.setMPort (s.mPort.leaveUp after)).TableLaw := tableLaw_congr hlaw rfl rfl rfl rfl
  obtain ⟨hback, hview, hslots, hfreeList, hwindows, hlong, hreplies⟩ :=
    fields_of_unlogged (foldl_recordFault_unlogged
      ((s.mPort.tx.filter fun pkt => pkt.kind == .post).map postLostFault) (s.setMPort (s.mPort.leaveUp after)).slotsLost)
  rw [← State.mLost] at hback hview hslots hfreeList hwindows hlong hreplies
  have hbackdrop : (s.mLost after).backdrop = (s.setMPort (s.mPort.leaveUp after)).backdrop := by
    rw [hback, slotsLost_backdrop]
  simp only [State.backdrop, Prod.mk.injEq] at hbackdrop
  obtain ⟨hstanding, hpark, habort, hmeters, hnext, hdue, hport⟩ := hbackdrop
  have hlog : (s.mLost after).logView = (faults.foldl (fun v fault => recordFault fault v) s).logView := by
    rw [State.mLost, List.foldl_append]
    refine foldl_sim (fun t u f h => recordFault_logView f h) _ ?_
    rw [slotsLost_logView]
    exact foldl_sim (fun t u f h => recordFault_logView f h) _ rfl
  simp only [State.logView, Prod.mk.injEq] at hlog
  have hanswers : (s.mLost after).answerView =
      (s.waitingSlots.foldl (fun t i => answerOrHold s.slots[i] .targetLost t) s).answerView := by
    refine hview.trans ((slotsLost_answerView _).trans ?_)
    exact foldl_sim (view := State.answerView) (f := fun t i => answerOrHold s.slots[i] .targetLost t)
      (g := fun t i => answerOrHold s.slots[i] .targetLost t) (fun t u i h => answerOrHold_answerView _ _ h)
      s.waitingSlots (s := s.setMPort (s.mPort.leaveUp after)) (t := s) rfl
  rw [foldl_answerOrHold .targetLost (fun i => s.slots[i])] at hanswers
  simp only [State.answerView, Prod.mk.injEq] at hanswers
  have howed : (s.waitingSlots.filterMap fun i => (s.slots[i]).owed) =
      answered.map fun i => ((s.slots[i]).origin, (s.slots[i]).upTag.getD 0, (s.slots[i]).length) := by
    simp only [owed_eq]
    rw [filterMap_ite, State.waitingSlots, List.filter_filter]
    congr 1
    refine List.filter_congr fun i _ => ?_
    rw [Bool.and_comm, Bool.and_assoc]
  rw [howed] at hanswers
  refine ⟨s.mLost after, mPortLeavesUp_eq after s, hstanding, hpark, habort, hmeters, hnext, hdue, hport, fun i => ?_, ?_,
    fun j => ?_, hlog.2.2.1, hlog.2.2.2, ?_, ?_, fun hup => ?_, fun hdown => ?_⟩
  · rw [hslots]
    exact slotsLost_slot (s.setMPort (s.mPort.leaveUp after)) i
  · exact hfreeList.trans (slotsLost_freeList (s.setMPort (s.mPort.leaveUp after)))
  · rw [hwindows]
    exact slotsLost_window hlaw' j
  · exact hlong.trans (slotsLost_drained hlaw').2.2.2
  · refine hreplies.trans ((slotsLost_replies_of_law hlaw').trans ?_)
    show s.replies ++ s.doneReply = _
    unfold State.doneReply
    cases s.longOp <;> rfl
  · rw [hanswers.2.1, hanswers.2.2, placedC_of_up hup, freeFor_of_up hup, ← List.map_take, ← List.map_drop, List.map_map,
      List.map_map]
    exact ⟨rfl, rfl⟩
  · rw [hanswers.2.1, hanswers.2.2, placedC_of_down hdown, freeFor_of_down hdown, List.drop_length, List.map_nil,
      List.append_nil]
    exact ⟨rfl, rfl⟩

end Sys2Proof.Machine
end

section
/-! The law of the park queue (R71, R70, R42) across runs, cascades, triggers and claims. -/

namespace Sys2Proof.Machine

/-! ## BEHIND exactly -/

theorem behindExactly_cons_iff (seen : List SourceId) (it : ParkItem) (rest : List ParkItem) :
    behindExactly seen (it :: rest) = true ↔
      (it.isBehind = true ↔ it.req.source ∈ seen) ∧ behindExactly (it.req.source :: seen) rest = true := by
  rw [behindExactly, Bool.and_eq_true, beq_iff_eq, Bool.eq_iff_iff, List.contains_iff_mem]

/-- Only which sources have been seen counts. -/
theorem behindExactly_congr {a b : List SourceId} (h : ∀ x, x ∈ a ↔ x ∈ b) (l : List ParkItem) :
    behindExactly a l = behindExactly b l := by
  induction l generalizing a b with
  | nil => rfl
  | cons it l ih =>
    rw [Bool.eq_iff_iff, behindExactly_cons_iff, behindExactly_cons_iff, h,
      ih (a := it.req.source :: a) (b := it.req.source :: b) fun x => by rw [List.mem_cons, List.mem_cons, h]]

theorem behindExactly_swap (x y : SourceId) (seen : List SourceId) (l : List ParkItem) :
    behindExactly (x :: y :: seen) l = behindExactly (y :: x :: seen) l :=
  behindExactly_congr (fun z => by simp only [List.mem_cons, or_left_comm]) l

theorem behindExactly_again {x : SourceId} {seen : List SourceId} (h : x ∈ seen) (l : List ParkItem) :
    behindExactly (x :: seen) l = behindExactly seen l :=
  behindExactly_congr (fun z => by
    rw [List.mem_cons]
    exact ⟨fun hz => hz.elim (fun hx => hx ▸ h) id, .inr⟩) l

section
variable {seen : List SourceId} {ahead after : List ParkItem} {it : ParkItem}

/-- When the first item of a source leaves, the items behind it stay BEHIND: its source counts as seen. -/
theorem behindExactly_remove_first (h : behindExactly seen (ahead ++ it :: after) = true)
    (hfirst : ∀ x ∈ ahead, x.req.source ≠ it.req.source) :
    behindExactly (it.req.source :: seen) (ahead ++ after) = true := by
  induction ahead generalizing seen with
  | nil => exact ((behindExactly_cons_iff _ _ _).mp h).2
  | cons x ahead ih =>
    obtain ⟨hx, hrest⟩ := (behindExactly_cons_iff _ _ _).mp h
    refine (behindExactly_cons_iff _ _ _).mpr ⟨?_, ?_⟩
    · rw [hx, List.mem_cons]
      exact ⟨.inr, fun hmem => hmem.resolve_left (hfirst x (List.mem_cons_self ..))⟩
    · rw [behindExactly_swap]
      exact ih hrest fun y hy => hfirst y (List.mem_cons_of_mem _ hy)

/-- An item behind another of its source may leave. -/
theorem behindExactly_remove_later (h : behindExactly seen (ahead ++ it :: after) = true)
    (hlater : it.req.source ∈ seen ∨ ∃ x ∈ ahead, x.req.source = it.req.source) :
    behindExactly seen (ahead ++ after) = true := by
  induction ahead generalizing seen with
  | nil =>
    have hseen : it.req.source ∈ seen := hlater.resolve_right fun ⟨x, hx, _⟩ => (List.not_mem_nil hx).elim
    rw [← behindExactly_again hseen]
    exact ((behindExactly_cons_iff _ _ _).mp h).2
  | cons x ahead ih =>
    obtain ⟨hx, hrest⟩ := (behindExactly_cons_iff _ _ _).mp h
    refine (behindExactly_cons_iff _ _ _).mpr ⟨hx, ih hrest ?_⟩
    rcases hlater with hseen | ⟨y, hy, hsrc⟩
    · exact .inl (List.mem_cons_of_mem _ hseen)
    · rcases List.mem_cons.mp hy with rfl | hy
      · exact .inl (hsrc ▸ List.mem_cons_self ..)
      · exact .inr ⟨y, hy, hsrc⟩

/-- An item may take a state that is BEHIND as its own was. -/
theorem behindExactly_set {st : ItemState} (h : behindExactly seen (ahead ++ it :: after) = true)
    (hsame : ParkItem.isBehind { it with state := st } = it.isBehind) :
    behindExactly seen (ahead ++ { it with state := st } :: after) = true := by
  induction ahead generalizing seen with
  | nil =>
    obtain ⟨hit, hrest⟩ := (behindExactly_cons_iff _ _ _).mp h
    exact (behindExactly_cons_iff _ _ _).mpr ⟨by rw [hsame]; exact hit, hrest⟩
  | cons x ahead ih =>
    obtain ⟨hx, hrest⟩ := (behindExactly_cons_iff _ _ _).mp h
    exact (behindExactly_cons_iff _ _ _).mpr ⟨hx, ih hrest⟩

/-- The first item of a source that was BEHIND an item that has left takes a state of its own. -/
theorem behindExactly_set_first {st : ItemState}
    (h : behindExactly (it.req.source :: seen) (ahead ++ it :: after) = true)
    (hfirst : ∀ x ∈ ahead, x.req.source ≠ it.req.source) (hunseen : it.req.source ∉ seen)
    (hown : ParkItem.isBehind { it with state := st } = false) :
    behindExactly seen (ahead ++ { it with state := st } :: after) = true := by
  induction ahead generalizing seen with
  | nil =>
    obtain ⟨-, hrest⟩ := (behindExactly_cons_iff _ _ _).mp h
    refine (behindExactly_cons_iff _ _ _).mpr ⟨?_, ?_⟩
    · rw [hown]
      exact ⟨fun hfalse => (by cases hfalse), fun hmem => absurd hmem hunseen⟩
    · rw [← behindExactly_again (List.mem_cons_self ..)]
      exact hrest
  | cons x ahead ih =>
    obtain ⟨hx, hrest⟩ := (behindExactly_cons_iff _ _ _).mp h
    have hother := hfirst x (List.mem_cons_self ..)
    refine (behindExactly_cons_iff _ _ _).mpr ⟨?_, ?_⟩
    · rw [hx, List.mem_cons]
      exact ⟨fun hmem => hmem.resolve_left hother, .inr⟩
    · rw [behindExactly_swap] at hrest
      refine ih hrest (fun y hy => hfirst y (List.mem_cons_of_mem _ hy)) ?_
      rw [List.mem_cons, not_or]
      exact ⟨fun heq => hother heq.symm, hunseen⟩

/-- A source with no item may be forgotten. -/
theorem behindExactly_forget {src : SourceId} {l : List ParkItem} (h : behindExactly (src :: seen) l = true)
    (hnone : ∀ x ∈ l, x.req.source ≠ src) : behindExactly seen l = true := by
  induction l generalizing seen with
  | nil => rfl
  | cons x l ih =>
    obtain ⟨hx, hrest⟩ := (behindExactly_cons_iff _ _ _).mp h
    refine (behindExactly_cons_iff _ _ _).mpr ⟨?_, ?_⟩
    · rw [hx, List.mem_cons]
      exact ⟨fun hmem => hmem.resolve_left (hnone x (List.mem_cons_self ..)), .inr⟩
    · rw [behindExactly_swap] at hrest
      exact ih hrest fun y hy => hnone y (List.mem_cons_of_mem _ hy)

/-- The first item of a source is BEHIND exactly when its source has been seen. -/
theorem isBehind_of_first (h : behindExactly seen (ahead ++ it :: after) = true)
    (hfirst : ∀ x ∈ ahead, x.req.source ≠ it.req.source) : it.isBehind = true ↔ it.req.source ∈ seen := by
  induction ahead generalizing seen with
  | nil => exact ((behindExactly_cons_iff _ _ _).mp h).1
  | cons x ahead ih =>
    obtain ⟨-, hrest⟩ := (behindExactly_cons_iff _ _ _).mp h
    rw [ih hrest fun y hy => hfirst y (List.mem_cons_of_mem _ hy), List.mem_cons]
    exact ⟨fun hmem => hmem.resolve_left fun heq => hfirst x (List.mem_cons_self ..) heq.symm, .inr⟩

/-- An item that is not BEHIND is the first of its source. -/
theorem first_of_not_behind (h : behindExactly seen (ahead ++ it :: after) = true) (hown : it.isBehind = false) :
    ∀ x ∈ ahead, x.req.source ≠ it.req.source := by
  induction ahead generalizing seen with
  | nil => exact fun x hx => absurd hx (List.not_mem_nil)
  | cons y ahead ih =>
    obtain ⟨-, hrest⟩ := (behindExactly_cons_iff _ _ _).mp h
    intro x hx
    rcases List.mem_cons.mp hx with rfl | hx
    · intro heq
      have hother := ih hrest
      have hbehind := (isBehind_of_first hrest hother).mpr (heq ▸ List.mem_cons_self ..)
      rw [hown] at hbehind
      cases hbehind
    · exact ih hrest x hx

end

/-- An item joins the tail: BEHIND exactly when its source has been seen (R71, R43). -/
theorem behindExactly_append {seen : List SourceId} {l : List ParkItem} {it : ParkItem}
    (h : behindExactly seen l = true)
    (hit : it.isBehind = true ↔ it.req.source ∈ seen ∨ ∃ x ∈ l, x.req.source = it.req.source) :
    behindExactly seen (l ++ [it]) = true := by
  induction l generalizing seen with
  | nil =>
    refine (behindExactly_cons_iff _ _ _).mpr ⟨?_, rfl⟩
    rw [hit]
    exact ⟨fun hmem => hmem.resolve_right fun ⟨x, hx, _⟩ => (List.not_mem_nil hx).elim, .inl⟩
  | cons x l ih =>
    obtain ⟨hx, hrest⟩ := (behindExactly_cons_iff _ _ _).mp h
    refine (behindExactly_cons_iff _ _ _).mpr ⟨hx, ih hrest ?_⟩
    rw [hit]
    simp only [List.mem_cons, exists_eq_or_imp]
    exact ⟨fun hmem => hmem.elim (fun hs => .inl (.inr hs)) fun hl => hl.elim (fun he => .inl (.inl he.symm)) .inr,
      fun hmem => hmem.elim (fun hs => hs.elim (fun he => .inr (.inl he.symm)) .inl) fun hl => .inr (.inr hl)⟩

theorem exists_first_of_source {src : SourceId} {l : List ParkItem} (h : ∃ it ∈ l, it.req.source = src) :
    ∃ ahead it after, l = ahead ++ it :: after ∧ it.req.source = src ∧ ∀ x ∈ ahead, x.req.source ≠ src := by
  induction l with
  | nil =>
    obtain ⟨it, hit, -⟩ := h
    exact absurd hit (List.not_mem_nil)
  | cons x l ih =>
    by_cases hx : x.req.source = src
    · exact ⟨[], x, l, rfl, hx, fun y hy => absurd hy (List.not_mem_nil)⟩
    · obtain ⟨it, hit, hsrc⟩ := h
      have hrest : it ∈ l := (List.mem_cons.mp hit).resolve_left fun heq => hx (heq ▸ hsrc)
      obtain ⟨ahead, first, after, hl, hfirst, hothers⟩ := ih ⟨it, hrest, hsrc⟩
      refine ⟨x :: ahead, first, after, by rw [hl]; rfl, hfirst, fun y hy => ?_⟩
      rcases List.mem_cons.mp hy with rfl | hy
      · exact hx
      · exact hothers y hy

/-! ## The law within a cascade -/

/-- The law of the park queue, but for an item of a seen source that has left its place to the items behind it. -/
structure State.ParkBut (seen : List SourceId) (s : State) : Prop where
  length : s.park.length ≤ capacity
  serials : (s.park.map ParkItem.serial).Pairwise (· < ·)
  behind : behindExactly seen s.park = true
  shapes : s.park.all ParkItem.shapeOk = true
  shut : s.mode = .shutMode → s.park = []

theorem parkBut_nil_iff (s : State) : s.ParkBut [] ↔ s.ParkLaw :=
  ⟨fun ⟨length, serials, behind, shapes, shut⟩ => ⟨length, serials, behind, shapes, shut⟩,
    fun ⟨length, serials, behind, shapes, shut⟩ => ⟨length, serials, behind, shapes, shut⟩⟩

theorem parkBut_congr {seen : List SourceId} {s t : State} (h : s.ParkBut seen) (hpark : t.park = s.park)
    (hmode : t.mode = s.mode) : t.ParkBut seen := by
  obtain ⟨length, serials, behind, shapes, shut⟩ := h
  exact ⟨hpark ▸ length, hpark ▸ serials, hpark ▸ behind, hpark ▸ shapes, hpark ▸ hmode ▸ shut⟩

theorem parkLaw_congr {s t : State} (h : s.ParkLaw) (hpark : t.park = s.park) (hmode : t.mode = s.mode) : t.ParkLaw :=
  (parkBut_nil_iff t).mp (parkBut_congr ((parkBut_nil_iff s).mpr h) hpark hmode)

theorem nodup_of_parkBut {seen : List SourceId} {s : State} (h : s.ParkBut seen) : (serials s.park).Nodup :=
  h.serials.imp Nat.ne_of_lt

theorem mode_of_kept {s t : State} (h : s.kept = t.kept) : s.mode = t.mode :=
  congrArg (fun k : Standing × Bool × SourceId => k.1.mode) h

section
variable {seen seen' : List SourceId} {s t : State} {ahead after : List ParkItem} {it : ParkItem}
  (h : s.ParkBut seen) (hpark : s.park = ahead ++ it :: after) (hmode : t.mode = s.mode)
include h hpark hmode

/-- The law after an item has left. -/
theorem parkBut_removed (hleft : t.park = ahead ++ after) (hbehind : behindExactly seen' (ahead ++ after) = true) :
    t.ParkBut seen' := by
  have hsublist : (ahead ++ after).Sublist s.park := by
    rw [hpark]
    exact (List.sublist_cons_self it after).append_left ahead
  refine ⟨?_, ?_, ?_, ?_, fun hshut => ?_⟩ <;> rw [hleft]
  · exact hsublist.length_le.trans h.length
  · exact h.serials.sublist (hsublist.map _)
  · exact hbehind
  · rw [List.all_eq_true]
    exact fun x hx => List.all_eq_true.mp h.shapes x (hsublist.subset hx)
  · have hempty := h.shut (hmode ▸ hshut)
    exact List.sublist_nil.mp (hempty ▸ hsublist)

/-- The law after an item has taken a new state. -/
theorem parkBut_set {st : ItemState} (hset : t.park = ahead ++ { it with state := st } :: after)
    (hshape : ParkItem.shapeOk { it with state := st } = true)
    (hbehind : behindExactly seen' (ahead ++ { it with state := st } :: after) = true) : t.ParkBut seen' := by
  have hserials : t.park.map ParkItem.serial = s.park.map ParkItem.serial := by
    rw [hset, hpark, List.map_append, List.map_append]
    rfl
  have hlength : t.park.length = s.park.length := by
    rw [hset, hpark, List.length_append, List.length_append]
    rfl
  refine ⟨hlength ▸ h.length, hserials ▸ h.serials, hset ▸ hbehind, ?_, fun hshut => ?_⟩
  · have hall := List.all_eq_true.mp h.shapes
    rw [hset, List.all_eq_true]
    intro x hx
    rw [hpark] at hall
    rcases List.mem_append.mp hx with hx | hx
    · exact hall x (List.mem_append_left _ hx)
    · rcases List.mem_cons.mp hx with rfl | hx
      · exact hshape
      · exact hall x (List.mem_append_right _ (List.mem_cons_of_mem _ hx))
  · have hempty := h.shut (hmode ▸ hshut)
    rw [hempty] at hpark
    simp at hpark

end

/-- A run that no older item of the source stands before parks with a reason of its own (R43). -/
theorem judge_park_not_behind {s : State} {r : Request} {reason : ParkReason} {fault : Option FaultInfo}
    (h : judge s r false = .park reason fault) : reason ≠ .behind := by
  rintro rfl
  cases hmode : s.mode with
  | shutMode =>
    rw [judge_of_shut hmode] at h
    cases h
  | openMode =>
    rw [judge_of_open hmode, judgeOpen, if_neg Bool.false_ne_true] at h
    split at h
    · cases h
    · split at h
      · cases h
      · split at h <;> cases h
  | guardMode =>
    rw [judge_of_guard hmode] at h
    simp only [judgeGuard, judgeWindowed, judgeUnmetered, Bool.false_eq_true, if_false] at h
    repeat' split at h
    all_goals cases h

theorem shapeOk_parked {it : ParkItem} (h : it.shapeOk = true) (r : ParkReason) :
    ParkItem.shapeOk { it with state := .parked r } = true := by
  unfold ParkItem.shapeOk at h ⊢
  dsimp only
  split at h
  next => exact Bool.and_eq_true_iff.mpr ⟨(Bool.and_eq_true_iff.mp h).1, rfl⟩
  next => exact h
  next => exact h

theorem shapeOk_leaving {it : ParkItem} (h : it.shapeOk = true) (hkind : it.req.kind ≠ .post) (status : AnswerStatus)
    (fault : FaultInfo) : ParkItem.shapeOk { it with state := .leaving status fault } = true := by
  unfold ParkItem.shapeOk at h ⊢
  dsimp only
  split at h
  next hpost => exact absurd hpost hkind
  next => exact h
  next => exact h

theorem isBehind_leaving (it : ParkItem) (status : AnswerStatus) (fault : FaultInfo) :
    ParkItem.isBehind { it with state := .leaving status fault } = false := rfl

theorem isBehind_parked (it : ParkItem) {r : ParkReason} (h : r ≠ .behind) :
    ParkItem.isBehind { it with state := .parked r } = false := by
  rw [← Bool.not_eq_true, isBehind_iff]
  exact fun heq => h (ItemState.parked.inj heq)

/-- One run of the first item of its source keeps the law, or leaves its source to the next item (R75). -/
theorem readmitOnce_parkBut {s : State} {ahead after : List ParkItem} {it : ParkItem}
    (hpark : s.park = ahead ++ it :: after) (hfirst : ∀ x ∈ ahead, x.req.source ≠ it.req.source)
    (h : (s.ParkLaw ∧ it.isBehind = false) ∨ s.ParkBut [it.req.source]) (used : Nat) :
    ((readmitOnce it s used).2 = true → (readmitOnce it s used).1.ParkBut [it.req.source]) ∧
    ((readmitOnce it s used).2 = false → (readmitOnce it s used).1.ParkLaw) := by
  obtain ⟨seen, hbut, hremove, hset⟩ : ∃ seen, s.ParkBut seen ∧
      behindExactly [it.req.source] (ahead ++ after) = true ∧
      ∀ st, ParkItem.isBehind { it with state := st } = false →
        behindExactly [] (ahead ++ { it with state := st } :: after) = true := by
    rcases h with ⟨hlaw, hown⟩ | hbut
    · have hbehind := hlaw.behind
      rw [hpark] at hbehind
      exact ⟨[], (parkBut_nil_iff s).mpr hlaw, behindExactly_remove_first hbehind hfirst,
        fun st hst => behindExactly_set hbehind (hst.trans hown.symm)⟩
    · have hbehind := hbut.behind
      rw [hpark] at hbehind
      refine ⟨[it.req.source], hbut, ?_, fun st hst => behindExactly_set_first hbehind hfirst (List.not_mem_nil) hst⟩
      rw [← behindExactly_again (List.mem_cons_self ..)]
      exact behindExactly_remove_first hbehind hfirst
  have hnodup := nodup_of_parkBut hbut
  have hmode : (readmitOnce it s used).1.mode = s.mode := mode_of_kept (readmitOnce_kept it s used)
  have hshape : it.shapeOk = true := by
    have hall := List.all_eq_true.mp hbut.shapes
    rw [hpark] at hall
    exact hall it (List.mem_append_right _ (List.mem_cons_self ..))
  have hleaves (hleft : (readmitOnce it s used).1.park = ahead ++ after) :
      (readmitOnce it s used).1.ParkBut [it.req.source] := parkBut_removed hbut hpark hmode hleft hremove
  have hstays {st : ItemState} (hpark' : (readmitOnce it s used).1.park = ahead ++ { it with state := st } :: after)
      (hok : ParkItem.shapeOk { it with state := st } = true)
      (hown : ParkItem.isBehind { it with state := st } = false) : (readmitOnce it s used).1.ParkLaw :=
    (parkBut_nil_iff _).mp (parkBut_set hbut hpark hmode hpark' hok (hset st hown))
  cases hjudge : judgeItem it s with
  | forward w =>
    have hrun := readmitOnce_of_forward hpark hnodup hjudge used
    refine ⟨fun _ => hleaves (by rw [hrun]; rfl), fun hstay => ?_⟩
    rw [hrun] at hstay
    cases hstay
  | park reason fault =>
    have hrun := readmitOnce_of_park hpark hnodup hjudge used
    have hreason : reason ≠ .behind := by
      rw [judgeItem_split hpark hnodup, hasItemOf_eq_false hfirst] at hjudge
      exact judge_park_not_behind hjudge
    refine ⟨fun hleft => ?_, fun _ => hstays (by rw [hrun]; rfl) (shapeOk_parked hshape reason)
      (isBehind_parked it hreason)⟩
    rw [hrun] at hleft
    cases hleft
  | refuse status fault =>
    by_cases hplace : it.req.kind = .post ∨ s.cFreeBeside used = true
    · have hrun := readmitOnce_of_answered hpark hnodup hjudge hplace
      refine ⟨fun _ => hleaves (by rw [hrun]; rfl), fun hstay => ?_⟩
      rw [hrun] at hstay
      cases hstay
    · have hrun := readmitOnce_of_no_place hpark hnodup hjudge hplace
      refine ⟨fun hleft => ?_, fun _ => hstays (by rw [hrun]; rfl)
        (shapeOk_leaving hshape (fun hpost => hplace (.inl hpost)) status fault) (isBehind_leaving it status fault)⟩
      rw [hrun] at hleft
      cases hleft

/-- The BEHIND trigger of a source restores the law (R75). -/
theorem behindTrigger_parkLaw (src : SourceId) (used : Nat) : ∀ (n : Nat) (s : State), s.park.length = n →
    s.ParkBut [src] → (behindTrigger src s used).ParkLaw := by
  intro n
  induction n using Nat.strong_induction_on with
  | _ n ih =>
    intro s hn h
    by_cases hnone : ∃ it ∈ s.park, it.req.source = src
    · obtain ⟨ahead, it, after, hpark, rfl, hfirst⟩ := exists_first_of_source hnone
      have hbehind := h.behind
      rw [hpark] at hbehind
      have hmem : it ∈ s.park := by
        rw [hpark]
        exact List.mem_append_right _ (List.mem_cons_self ..)
      have hit : it.isBehind = true := (isBehind_of_first hbehind hfirst).mpr (List.mem_cons_self ..)
      obtain ⟨hleaves, hstays⟩ := readmitOnce_parkBut hpark hfirst (.inr h) used
      rw [behindTrigger_of_behind hpark hfirst rfl hit, readmit_eq hmem (nodup_of_parkBut h)]
      split
      next hleft =>
        have hrest : (readmitOnce it s used).1.park.length < n := by
          obtain ⟨st, ⟨-, hrest⟩ | ⟨hstay, -⟩⟩ := readmitOnce_park hpark (nodup_of_parkBut h) used
          · rw [hrest, ← hn, hpark]
            simp
          · rw [hleft] at hstay
            cases hstay
        exact ih _ hrest _ rfl (hleaves hleft)
      next hstay => exact hstays (Bool.eq_false_iff.mpr hstay)
    · have hnone' : ∀ x ∈ s.park, x.req.source ≠ src := fun x hx hsrc => hnone ⟨x, hx, hsrc⟩
      rw [behindTrigger_of_no_item hnone']
      refine (parkBut_nil_iff s).mp ⟨h.length, h.serials, behindExactly_forget h.behind hnone', h.shapes, h.shut⟩

/-- The re-admission of an item that is not BEHIND keeps the law. -/
theorem readmit_parkLaw {s : State} {it : ParkItem} (h : s.ParkLaw) (hmem : it ∈ s.park) (hown : it.isBehind = false)
    (used : Nat) : (readmit s.park.length it.serial s used).ParkLaw := by
  obtain ⟨ahead, after, hpark⟩ := List.append_of_mem hmem
  have hbehind := h.behind
  rw [hpark] at hbehind
  obtain ⟨hleaves, hstays⟩ := readmitOnce_parkBut hpark (first_of_not_behind hbehind hown) (.inl ⟨h, hown⟩) used
  rw [readmit_eq hmem (nodup_of_parkBut ((parkBut_nil_iff s).mpr h))]
  split
  next hleft => exact behindTrigger_parkLaw _ used _ _ rfl (hleaves hleft)
  next hstay => exact hstays (Bool.eq_false_iff.mpr hstay)

/-- A trigger that BEHIND items do not wait for keeps the law (R73). -/
theorem trigger_parkLaw {hits : ParkReason → Bool} (hhits : hits .behind = false) {s : State} (h : s.ParkLaw) :
    (trigger hits s).ParkLaw := by
  refine foldl_keeps (P := State.ParkLaw) (fun t serial ht => ?_) _ s h
  unfold triggerTurn
  cases hitem : itemOf serial t.park with
  | none => exact ht
  | some it =>
    dsimp only
    split
    next hwaits =>
      have hserial : it.serial = serial := by
        have hfound := List.find?_some hitem
        exact beq_iff_eq.mp hfound
      rw [← hserial]
      refine readmit_parkLaw ht (List.mem_of_find?_eq_some hitem) ?_ 0
      rw [← Bool.not_eq_true, isBehind_iff]
      intro hstate
      obtain ⟨r, hr, hhit⟩ := (waitsFor_iff hits it).mp hwaits
      rw [hstate] at hr
      rw [← ItemState.parked.inj hr, hhits] at hhit
      cases hhit
    next => exact ht

/-- Under the law the BEHIND trigger finds no item to run again. -/
theorem behindTrigger_of_law {s : State} (h : s.ParkLaw) (src : SourceId) (used : Nat) :
    behindTrigger src s used = s := by
  by_cases hnone : ∃ it ∈ s.park, it.req.source = src
  · obtain ⟨ahead, it, after, hpark, rfl, hfirst⟩ := exists_first_of_source hnone
    have hbehind := h.behind
    rw [hpark] at hbehind
    refine behindTrigger_of_other hpark hfirst rfl (Bool.eq_false_iff.mpr fun hit => ?_) used
    exact absurd ((isBehind_of_first hbehind hfirst).mp hit) (List.not_mem_nil)
  · exact behindTrigger_of_no_item (fun x hx hsrc => hnone ⟨x, hx, hsrc⟩) used

/-- An item that leaves with its answer keeps the law (R75, R80, R83). -/
theorem itemLeaves_parkLaw {s : State} {it : ParkItem} (h : s.ParkLaw) (hmem : it ∈ s.park) (status : AnswerStatus)
    (fault : FaultInfo) : (itemLeaves it status fault s).ParkLaw := by
  obtain ⟨ahead, after, hpark⟩ := List.append_of_mem hmem
  have hbut := (parkBut_nil_iff s).mpr h
  have hbehind := h.behind
  rw [hpark] at hbehind
  rw [itemLeaves_split hpark (nodup_of_parkBut hbut)]
  have hmode : ((recordFault fault (answerError status it.req s)).setPark (ahead ++ after)).mode = s.mode :=
    (mode_of_kept (recordFault_kept fault _)).trans (mode_of_kept (answerError_kept status it.req s))
  by_cases hlater : ∃ x ∈ ahead, x.req.source = it.req.source
  · have hlaw := (parkBut_nil_iff _).mp
      (parkBut_removed hbut hpark hmode rfl (behindExactly_remove_later hbehind (.inr hlater)))
    rw [behindTrigger_of_law hlaw]
    exact hlaw
  · have hfirst : ∀ x ∈ ahead, x.req.source ≠ it.req.source := fun x hx hsrc => hlater ⟨x, hx, hsrc⟩
    exact behindTrigger_parkLaw _ _ _ _ rfl
      (parkBut_removed hbut hpark hmode rfl (behindExactly_remove_first hbehind hfirst))

/-! ## A request that is parked -/

theorem recordOpt_park (f : Option FaultInfo) (s : State) : (recordOpt f s).park = s.park := by
  cases f with
  | none => rfl
  | some f => exact recordFault_park f s

/-- A run parks BEHIND exactly behind an older item of its source, and never in SHUT mode (R43, R42). -/
theorem judge_park {s : State} {r : Request} {behind : Bool} {reason : ParkReason} {fault : Option FaultInfo}
    (h : judge s r behind = .park reason fault) : (reason = .behind ↔ behind = true) ∧ s.mode ≠ .shutMode := by
  have hmode : s.mode ≠ .shutMode := fun hshut => by
    rw [judge_of_shut hshut] at h
    cases h
  refine ⟨?_, hmode⟩
  cases behind with
  | false => exact ⟨fun hreason => absurd hreason (judge_park_not_behind h), fun hfalse => by cases hfalse⟩
  | true =>
    refine ⟨fun _ => rfl, fun _ => ?_⟩
    cases hm : s.mode with
    | shutMode => exact absurd hm hmode
    | openMode =>
      rw [judge_of_open hm, judgeOpen, if_pos rfl] at h
      cases h
      rfl
    | guardMode =>
      rw [judge_of_guard hm, judgeGuard] at h
      split at h
      · cases h
      · cases h
        rfl

theorem nextSerial_lt {s : State} (h : (s.park.map ParkItem.serial).Pairwise (· < ·)) :
    ∀ it ∈ s.park, it.serial < nextSerial s := by
  intro it hit
  obtain ⟨l, last, hpark⟩ : ∃ l last, s.park = l ++ [last] :=
    ⟨s.park.dropLast, s.park.getLast (List.ne_nil_of_mem hit), (List.dropLast_append_getLast _).symm⟩
  have hnext : nextSerial s = last.serial + 1 := by
    rw [nextSerial, hpark, List.getLast?_concat]
  rw [hpark, List.map_append, List.pairwise_append] at h
  rw [hpark] at hit
  rw [hnext]
  rcases List.mem_append.mp hit with hit | hit
  · exact Nat.lt_succ_of_lt (h.2.2 _ (List.mem_map_of_mem hit) _ (List.mem_singleton_self _))
  · rw [List.mem_singleton.mp hit]
    exact Nat.lt_succ_self _

/-- A request of the shape that a packet gives (R39): a POST has no tag, a READ or WRITE has one. -/
def Request.shapeOk (r : Request) : Bool :=
  match r.kind with
  | .post => r.tag.isNone
  | .read | .write => r.tag.isSome

theorem requestOf_shapeOk (k : ReqKind) (p : Packet) : (requestOf k p).shapeOk = true := by cases k <;> rfl

/-- A request taken from the C-port keeps the law (R56, R71). -/
theorem runFresh_parkLaw {s : State} {r : Request} (h : s.ParkLaw) (hshape : r.shapeOk = true) :
    (runFresh r s).ParkLaw := by
  have hkept : (runFresh r s).mode = s.mode := mode_of_kept (runFresh_kept r s)
  cases hjudge : judge s r (hasItemOf r.source s.park) with
  | forward w =>
    have hrun : runFresh r s = forwardRequest w r s := by rw [runFresh, hjudge]
    exact parkLaw_congr h (by rw [hrun, forwardRequest_park]) hkept
  | refuse status fault =>
    have hrun : runFresh r s = recordFault fault (answerError status r s) := by rw [runFresh, hjudge]
    exact parkLaw_congr h (by rw [hrun, recordFault_park, answerError_park]) hkept
  | park reason fault =>
    have hrun : runFresh r s = parkFresh reason fault r s := by rw [runFresh, hjudge]
    obtain ⟨hreason, hmode⟩ := judge_park hjudge
    by_cases hroom : s.park.length < capacity
    · let it : ParkItem :=
        { serial := nextSerial s, state := .parked reason, arrival := s.tick, req := r, expiryDue := false }
      have hpark : (runFresh r s).park = s.park ++ [it] := by
        rw [hrun, parkFresh, if_pos hroom, recordOpt_park]
        rfl
      have hbehind : it.isBehind = true ↔ it.req.source ∈ [] ∨ ∃ x ∈ s.park, x.req.source = it.req.source := by
        rw [isBehind_iff]
        show ItemState.parked reason = .parked .behind ↔ _
        rw [ItemState.parked.injEq, hreason, hasItemOf_iff]
        exact ⟨.inr, fun hor => hor.resolve_left (List.not_mem_nil)⟩
      have hok : it.shapeOk = true := by
        unfold Request.shapeOk at hshape
        unfold ParkItem.shapeOk
        show (match r.kind with
          | .post => r.tag.isNone && it.isParked
          | .read | .write => r.tag.isSome) = true
        cases hkind : r.kind <;> rw [hkind] at hshape
        · exact hshape
        · exact hshape
        · exact Bool.and_eq_true_iff.mpr ⟨hshape, rfl⟩
      refine ⟨?_, ?_, ?_, ?_, fun hshut => absurd (hkept ▸ hshut) hmode⟩ <;> rw [hpark]
      · rw [List.length_append]
        exact hroom
      · rw [List.map_append, List.pairwise_append]
        refine ⟨h.serials, List.pairwise_singleton _ _, fun a ha b hb => ?_⟩
        obtain ⟨x, hx, rfl⟩ := List.mem_map.mp ha
        rw [List.mem_singleton.mp hb]
        exact nextSerial_lt h.serials x hx
      · exact behindExactly_append h.behind hbehind
      · rw [List.all_append, h.shapes]
        exact Bool.and_eq_true_iff.mpr ⟨rfl, Bool.and_eq_true_iff.mpr ⟨hok, rfl⟩⟩
    · refine parkLaw_congr h ?_ hkept
      rw [hrun, parkFresh, if_neg hroom, recordFault_park, recordOpt_park, answerError_park]

end Sys2Proof.Machine
end


section
/-! SUPPORT. The laws of a port's record and of a meter's record, kept by each operation on the record
(R157 to R162, R111 to R125). -/

namespace Sys2Proof.Machine

/-! ## The record of a port -/

/-- The law of a port's record looks at the training state, the agreed word and the negotiated payload, and
bounds the rest. -/
theorem PortState.Law.of_same {x y : PortState} (h : x.Law) (htraining : y.training = x.training)
    (hagreed : y.agreed = x.agreed) (hnegotiated : y.negotiated = x.negotiated)
    (hout : x.training ≠ .up → y.credits = 0 ∧ y.owed = 0 ∧ y.tx = [])
    (hcredits : y.credits ≤ 16) (howed : y.owed ≤ 16) (hrx : y.rx.length ≤ capacity)
    (htx : y.tx.length ≤ capacity) : y.Law where
  negotiated_up hup := by
    rw [hnegotiated, hagreed]
    exact h.negotiated_up (htraining ▸ hup)
  outside_up hdown := by
    rw [htraining] at hdown
    exact ⟨hnegotiated.trans (h.outside_up hdown).1, hout hdown⟩
  agreed_in hsome := by
    rw [htraining]
    exact h.agreed_in (hagreed ▸ hsome)
  agreed_valid o ho := h.agreed_valid o (hagreed ▸ ho)
  credits := hcredits
  owed := howed
  rx := hrx
  tx := htx

/-- A port that is not UP may leave its training and its agreed word for a state in which it has none. -/
theorem PortState.Law.of_no_link {x y : PortState} (h : x.Law) (hdown : y.training ≠ .up) (hagreed : y.agreed = none)
    (hnegotiated : y.negotiated = none) (hcredits : y.credits = 0) (howed : y.owed = 0) (htx : y.tx = [])
    (hrx : y.rx = x.rx) : y.Law where
  negotiated_up hup := absurd hup hdown
  outside_up _ := ⟨hnegotiated, hcredits, howed, htx⟩
  agreed_in hsome := by rw [hagreed] at hsome; exact absurd hsome (by decide)
  agreed_valid o ho := by rw [hagreed] at ho; exact absurd ho (by simp)
  credits := by omega
  owed := by omega
  rx := hrx ▸ h.rx
  tx := by rw [htx]; exact Nat.zero_le _

section
variable {x : PortState} (h : x.Law)
include h

theorem PortState.Law.outside {t : Training} (ht : t ≠ .up) (htraining : x.training = t) :
    x.credits = 0 ∧ x.owed = 0 ∧ x.tx = [] := (h.outside_up (htraining ▸ ht)).2

theorem PortState.Law.leaveUp {t : Training} (ht : t ≠ .up) : (x.leaveUp t).Law :=
  h.of_no_link ht rfl rfl rfl rfl rfl rfl

theorem PortState.Law.enter {t : Training} (ht : t ≠ .up) (hx : x.training ≠ .up) : (x.enter t).Law :=
  h.of_no_link ht rfl rfl (h.outside_up hx).2.1 (h.outside_up hx).2.2.1 (h.outside_up hx).2.2.2 rfl

/-- A change of what the law does not look at: the counts of the training, the indications, the alignment loss, the
record of what was sent. -/
theorem PortState.Law.of_bookkeeping {y : PortState} (hsame : y = { x with
    trainCount := y.trainCount, lastOffer := y.lastOffer, indications := y.indications, lossTicks := y.lossTicks,
    sent := y.sent }) : y.Law := by
  rw [hsame]
  exact h.of_same rfl rfl rfl (fun hdown => (h.outside_up hdown).2) h.credits h.owed h.rx h.tx

theorem PortState.Law.interrupted : x.interrupted.Law := by
  unfold PortState.interrupted
  split
  · exact h.of_bookkeeping rfl
  · exact h.of_bookkeeping rfl
  · exact h
  · exact h
  · exact h

theorem PortState.Law.countLoss : x.countLoss.Law := h.of_bookkeeping rfl

theorem PortState.Law.creditError : x.creditError.Law := h.of_bookkeeping rfl

theorem PortState.Law.trainInTrain (hx : x.training = .train) (p : Port) (w : TrainWord) :
    (x.trainInTrain p w).Law := by
  have hdown : x.training ≠ .up := by rw [hx]; decide
  obtain ⟨hcredits, howed, htx⟩ := (h.outside_up hdown).2
  unfold PortState.trainInTrain
  split
  next => exact h.of_bookkeeping rfl
  next hvalid =>
    split
    · split
      · exact h.of_bookkeeping rfl
      · split
        · exact h.enter (by decide) hdown
        · exact
            { negotiated_up := fun hup => absurd hup Training.noConfusion
              outside_up := fun _ => ⟨(h.outside_up hdown).1, hcredits, howed, htx⟩
              agreed_in := fun _ => .inl rfl
              agreed_valid := fun o ho => by
                cases ho
                simpa using hvalid
              credits := h.credits, owed := h.owed, rx := h.rx, tx := h.tx }
    · exact h.of_bookkeeping rfl

/-- A port enters UP from AGREE, with the word it agreed to (R159). -/
theorem PortState.Law.enterUp {o : LinkOffer} (ho : x.agreed = some o) (p : Port) :
    (x.enterUp p o).Law where
  negotiated_up _ := ⟨rfl, rfl⟩
  outside_up hdown := absurd rfl hdown
  agreed_in _ := .inr rfl
  agreed_valid _ ho' := Option.some.inj ho' ▸ h.agreed_valid o ho
  credits := ((offerValid_iff o).1 (h.agreed_valid o ho)).2.2.2
  owed := Nat.zero_le _
  rx := Nat.zero_le _
  tx := h.tx

theorem PortState.Law.returnCredits (hup : x.training = .up) : x.returnCredits.Law := by
  rw [returnCredits_eq]
  exact h.of_same rfl rfl rfl (fun hdown => absurd hup hdown) h.credits (Nat.zero_le _) h.rx h.tx

theorem PortState.Law.oweCredit (hup : x.training = .up) : x.oweCredit.Law := by
  have howed : x.oweCredit.owed ≤ 16 := by
    unfold PortState.oweCredit
    split
    next hroom => exact hroom
    next => exact (by decide : 1 ≤ 16)
  rw [oweCredit_eq] at howed ⊢
  exact h.of_same rfl rfl rfl (fun hdown => absurd hup hdown) h.credits howed h.rx h.tx

theorem PortState.Law.of_rx {l : List Packet} (hl : l.length ≤ capacity) : PortState.Law { x with rx := l } :=
  h.of_same rfl rfl rfl (fun hdown => (h.outside_up hdown).2) h.credits h.owed hl h.tx

theorem PortState.Law.takeHead : x.takeHead.Law := by
  have htail : PortState.Law { x with rx := x.rx.tail } :=
    h.of_rx (by rw [List.length_tail]; exact (Nat.sub_le _ _).trans h.rx)
  unfold PortState.takeHead
  split
  next hup => exact htail.oweCredit ((isUp_iff x).1 hup)
  next => exact htail

theorem PortState.Law.sendHead (hup : x.training = .up) : x.sendHead.Law := by
  unfold PortState.sendHead
  split
  next => exact h
  next pkt rest htx =>
    have hy := h.returnCredits hup
    have hrest : rest.length ≤ capacity := by
      have := h.tx
      rw [htx, List.length_cons] at this
      omega
    have htraining : x.returnCredits.training = .up := by rw [returnCredits_eq]; exact hup
    exact hy.of_same rfl rfl rfl (fun hdown => absurd htraining hdown) ((Nat.sub_le _ _).trans hy.credits) hy.owed
      hy.rx hrest

theorem PortState.Law.addCredits (hup : x.training = .up) (count : Nat) : (x.addCredits count).Law := by
  have hlimit : (x.agreed.map LinkOffer.buffers).getD 0 ≤ 16 := by
    cases hagreed : x.agreed with
    | none => exact Nat.zero_le _
    | some o => exact ((offerValid_iff o).1 (h.agreed_valid o hagreed)).2.2.2
  unfold PortState.addCredits
  dsimp only
  split
  · exact h.creditError
  · split
    · exact h.of_same rfl rfl rfl (fun hdown => absurd hup hdown) hlimit h.owed h.rx h.tx
    next hfits =>
      exact h.of_same rfl rfl rfl (fun hdown => absurd hup hdown) (by show x.credits + count ≤ 16; omega) h.owed h.rx h.tx

theorem PortState.Law.receive (hup : x.training = .up) (p : Port) (bid : SourceId) (right : Bool) (pkt : Packet) :
    (x.receive p bid right pkt).Law := by
  unfold PortState.receive
  split
  next => exact h.creditError
  next hroom =>
    split
    next => exact h.of_rx (by rw [List.length_append, List.length_singleton]; omega)
    next f _ =>
      have hlatched : PortState.Law { x with indications := x.indications.latch f } := h.of_bookkeeping rfl
      exact hlatched.oweCredit hup

theorem PortState.Law.of_tx (hup : x.training = .up) {l : List Packet} (hl : l.length ≤ capacity) :
    PortState.Law { x with tx := l } :=
  h.of_same rfl rfl rfl (fun hdown => absurd hup hdown) h.credits h.owed h.rx hl

theorem PortState.Law.of_no_tx : PortState.Law { x with tx := [] } :=
  h.of_same rfl rfl rfl (fun hdown => ⟨(h.outside_up hdown).2.1, (h.outside_up hdown).2.2.1, rfl⟩) h.credits h.owed h.rx
    (Nat.zero_le _)

end

/-! ### What the operations leave of the training state and of the send queue -/

theorem takeHead_isUp (x : PortState) : x.takeHead.isUp = x.isUp := by
  rw [takeHead_eq]
  split <;> rfl

theorem takeHead_tx (x : PortState) : x.takeHead.tx = x.tx := by
  rw [takeHead_eq]
  split <;> rfl

theorem interrupted_training (x : PortState) : x.interrupted.training = x.training ∧ x.interrupted.tx = x.tx := by
  unfold PortState.interrupted
  split <;> exact ⟨rfl, rfl⟩

theorem addCredits_training (x : PortState) (count : Nat) :
    (x.addCredits count).training = x.training ∧ (x.addCredits count).tx = x.tx := by
  unfold PortState.addCredits
  dsimp only
  split
  · exact ⟨rfl, rfl⟩
  · split <;> exact ⟨rfl, rfl⟩

theorem receive_training (p : Port) (x : PortState) (bid : SourceId) (right : Bool) (pkt : Packet) :
    (x.receive p bid right pkt).training = x.training ∧ (x.receive p bid right pkt).tx = x.tx := by
  unfold PortState.receive
  split
  · exact ⟨rfl, rfl⟩
  · split
    · exact ⟨rfl, rfl⟩
    · rw [oweCredit_eq]
      exact ⟨rfl, rfl⟩

theorem returnCredits_training (x : PortState) :
    x.returnCredits.training = x.training ∧ x.returnCredits.tx = x.tx := by
  rw [returnCredits_eq]
  exact ⟨rfl, rfl⟩

theorem sendHead_training (x : PortState) : x.sendHead.training = x.training ∧ x.sendHead.tx = x.tx.tail := by
  unfold PortState.sendHead
  split
  next htx => rw [htx]; exact ⟨rfl, rfl⟩
  next htx =>
    rw [htx]
    exact ⟨(returnCredits_training x).1, rfl⟩

theorem trainInTrain_training {x : PortState} (hx : x.training = .train) (p : Port) (w : TrainWord) :
    (x.trainInTrain p w).training ≠ .up ∧ (x.trainInTrain p w).tx = x.tx := by
  unfold PortState.trainInTrain
  split
  · exact ⟨by rw [PortState.restart, hx]; decide, rfl⟩
  · split
    · split
      · exact ⟨by rw [hx]; decide, rfl⟩
      · split <;> exact ⟨Training.noConfusion, rfl⟩
    · exact ⟨by rw [hx]; decide, rfl⟩

/-! ## The record of a meter -/

section
variable {x : Meter} (h : x.Law)
include h

theorem Meter.Law.freshPeriod : x.freshPeriod.Law := by
  have hperiod : 1 ≤ x.freshPeriod.period ∧ x.freshPeriod.period ≤ 65535 ∧ x.freshPeriod.budget ≤ 65535 := by
    unfold Meter.freshPeriod
    cases hnext : x.next with
    | none => exact ⟨h.period.1, h.period.2, h.budget⟩
    | some n => exact h.next n hnext
  obtain ⟨hlow, hhigh, hbudget⟩ := hperiod
  exact
    { period := ⟨hlow, hhigh⟩
      budget := hbudget
      next := fun n hn => by cases hn
      count := hlow
      used := Nat.zero_le _
      due := fun hdue => by cases hdue }

theorem Meter.Law.run : x.run.Law :=
  { period := h.period, budget := h.budget, next := h.next, count := h.count, used := h.used,
    due := fun hdue => ⟨rfl, (h.due hdue).2⟩ }

theorem Meter.Law.stop : x.stop.Law :=
  { period := h.period, budget := h.budget, next := h.next, count := h.count, used := h.used,
    due := fun hdue => by cases hdue }

theorem Meter.Law.warmReset : x.warmReset.Law :=
  { period := h.period, budget := h.budget, next := fun n hn => (by cases hn), count := h.period.1,
    used := Nat.zero_le _, due := fun hdue => by cases hdue }

theorem Meter.Law.countTick : x.countTick.Law := by
  unfold Meter.countTick
  split
  next => exact h
  next hrunning =>
    split
    next hroom =>
      exact
        { period := h.period, budget := h.budget, next := h.next, count := hroom, used := h.used
          due := fun hdue => by
            have hlast := (h.due hdue).2
            omega }
    next hlast =>
      exact
        { period := h.period, budget := h.budget, next := h.next, count := h.count, used := h.used
          due := fun _ => ⟨hrunning, by
            have hcount := h.count
            show x.periodCount + 1 = x.period
            omega⟩ }

/-- A charge of a RUNNING meter that the meter step passed (R51, R53). -/
theorem Meter.Law.charged {n : Nat} (hfits : x.used + n ≤ x.budget) : Meter.Law { x with used := x.used + n } :=
  { period := h.period, budget := h.budget, next := h.next, count := h.count
    used := hfits.trans h.budget
    due := h.due }

theorem Meter.Law.afterSettings {g : MeterSettings} (hlow : 1 ≤ g.period) (hhigh : g.period ≤ 65535)
    (hbudget : g.budget ≤ 65535) : (x.afterSettings g).Law := by
  have hwith : g.buffered = false → x.withSettings g =
      { x with basis := g.basis, action := g.action, buffered := false, next := none, period := g.period
               budget := g.budget } := fun hunbuffered => by
    rw [Meter.withSettings, hunbuffered]
    rfl
  unfold Meter.afterSettings
  dsimp only
  split
  next hbuffered =>
    rw [Meter.withSettings, if_pos hbuffered]
    exact
      { period := h.period, budget := h.budget, count := h.count, used := h.used, due := h.due
        next := fun n hn => by
          cases hn
          exact ⟨hlow, hhigh, hbudget⟩ }
  next hunbuffered =>
    rw [hwith (Bool.eq_false_iff.2 hunbuffered)]
    split
    next =>
      exact
        { period := ⟨hlow, hhigh⟩, budget := hbudget, next := fun n hn => (by cases hn), count := hlow
          used := Nat.zero_le _, due := fun hdue => by cases hdue }
    next hstays =>
      have hroom : x.ticksReached < g.period := by
        unfold Meter.rollsAtOnce at hstays
        rw [Bool.eq_false_iff.2 hunbuffered] at hstays
        simpa using hstays
      exact
        { period := ⟨hlow, hhigh⟩, budget := hbudget, next := fun n hn => (by cases hn), count := hroom
          used := h.used, due := fun hdue => by cases hdue }

end

theorem meterSettingsOf_ranges {l : List Byte} {g : MeterSettings} (h : meterSettingsOf l = some g) :
    1 ≤ g.period ∧ g.period ≤ 65535 ∧ g.budget ≤ 65535 := by
  obtain ⟨-, hperiod, hbudget, hpositive⟩ := meterSettingsOf_some h
  have hp := fieldAt_lt l 3 2
  have hb := fieldAt_lt l 5 2
  omega

end Sys2Proof.Machine
end


section
/-! SUPPORT. A step as a run of elementary changes. Every event of the bridge is made of the changes that
`Start` and `Move` list, each with the conditions under which the events make it; the laws of the bridge are then
proved change by change. A `Start` lets nothing into the M send queue; a `Move` leaves the mode and the domain table
and lets no entry of the window table grow out of what it admits. -/

namespace Sys2Proof.Machine

/-! ## What a forwarded request has passed -/

/-- What the GUARD path has found of a request that it forwards through entry `i` (R47 to R51). -/
structure State.PassesGuard (s : State) (r : Request) (i : Fin 64) : Prop where
  mode : s.mode = .guardMode
  known : (s.domains[sourceIndex r.source]).valid = true
  found : (s.windows[i]).Matches (s.domains[sourceIndex r.source]).domain r.address
  whole : r.address.toNat + r.length ≤ (s.windows[i]).cardBase.toNat + 2 ^ (s.windows[i]).sizeExp
  granted : (s.windows[i]).rights.Grant (s.domains[sourceIndex r.source]).sourceClass r.kind
  budget : ∀ m, (s.windows[i]).meter = some m → (s.meters[m]).state = .running →
    (s.meters[m]).used + (s.meters[m]).cost r.length ≤ (s.meters[m]).budget

/-- What a run has found of a request that it forwards through `w` or in OPEN mode (R45, R46, R52). -/
structure State.Forwards (s : State) (r : Request) (w : Option (Fin 64)) : Prop where
  up : s.mPort.training = .up
  place : s.mPort.tx.length < 16
  slot : slotKindFor (w.map fun i => s.windows[i]) r.kind ≠ none → s.freeList ≠ []
  openPath : w = none → s.mode = .openMode
  guardPath : ∀ i, w = some i → s.PassesGuard r i

theorem verdict_pass {x : Meter} {n : Nat} (h : x.verdict n = .pass) (hrunning : x.state = .running) :
    x.used + x.cost n ≤ x.budget := by
  rw [verdict_of_running hrunning] at h
  rw [cost_eq]
  split at h
  · cases h
  · split at h
    next hfits => exact hfits
    · split at h <;> cases h

theorem judgeOpen_forward {s : State} {r : Request} {behind : Bool} {w : Option (Fin 64)} (hmode : s.mode = .openMode)
    (h : judgeOpen s r behind = .forward w) : s.Forwards r w := by
  unfold judgeOpen at h
  split at h
  · cases h
  · split at h
    · cases h
    · split at h
      · cases h
      next hhand =>
        split at h
        · cases h
        next hup =>
          cases h
          have hres : resourcesAtHand s (slotKindFor none r.kind) = true := by simpa using hhand
          obtain ⟨hplace, hslot⟩ := (resourcesAtHand_iff ..).1 hres
          exact
            { up := (mUp_iff s).1 (by simpa using hup)
              place := hplace
              slot := fun hk => (hslot hk).1
              openPath := fun _ => hmode
              guardPath := fun i hi => by cases hi }

theorem judgeUnmetered_forward {s : State} {r : Request} {i : Fin 64} {w : Option (Fin 64)}
    (h : judgeUnmetered s r i = .forward w) (hpass : s.PassesGuard r i) : s.Forwards r w := by
  unfold judgeUnmetered at h
  split at h
  · cases h
  next hup =>
    split at h
    · cases h
    next hhand =>
      cases h
      have hres : resourcesAtHand s (slotKindFor (some s.windows[i]) r.kind) = true := by simpa using hhand
      obtain ⟨hplace, hslot⟩ := (resourcesAtHand_iff ..).1 hres
      exact
        { up := (mUp_iff s).1 (by simpa using hup)
          place := hplace
          slot := fun hk => (hslot hk).1
          openPath := fun hi => by cases hi
          guardPath := fun j hj => by
            cases hj
            exact hpass }

theorem judgeWindowed_forward {s : State} {r : Request} {i : Fin 64} {w : Option (Fin 64)}
    (h : judgeWindowed s r i = .forward w)
    (hpass : (∀ m, (s.windows[i]).meter = some m → (s.meters[m]).state = .running →
      (s.meters[m]).used + (s.meters[m]).cost r.length ≤ (s.meters[m]).budget) → s.PassesGuard r i) :
    s.Forwards r w := by
  unfold judgeWindowed at h
  split at h
  · cases h
  · split at h
    next hnone =>
      exact judgeUnmetered_forward h (hpass fun m hm => by rw [hnone] at hm; cases hm)
    next m hm =>
      split at h
      · cases h
      · cases h
      next hverdict =>
        refine judgeUnmetered_forward h (hpass fun m' hm' hrunning => ?_)
        rw [hm] at hm'
        cases hm'
        exact verdict_pass hverdict hrunning

theorem judgeGuard_forward {s : State} {r : Request} {behind : Bool} {w : Option (Fin 64)}
    (hmode : s.mode = .guardMode) (h : judgeGuard s r behind = .forward w) : s.Forwards r w := by
  unfold judgeGuard at h
  dsimp only at h
  split at h
  · cases h
  next hknown =>
    split at h
    · cases h
    · split at h
      · split at h <;> cases h
      next i hi =>
        split at h
        · cases h
        next hwhole =>
          split at h
          · cases h
          next hgrant =>
            have hvalid : (s.domains[sourceIndex r.source]).valid = true := by simpa using hknown
            have hgranted : rightsGrant s.windows[i] (s.domains[sourceIndex r.source]).sourceClass r.kind = true := by
              simpa using hgrant
            exact judgeWindowed_forward h fun hbudget =>
              { mode := hmode
                known := hvalid
                found := (admits_iff ..).1 (findIndex_some hi)
                whole := Nat.le_of_not_lt hwhole
                granted := (rightsGrant_iff ..).1 hgranted
                budget := hbudget }

theorem judge_forward {s : State} {r : Request} {behind : Bool} {w : Option (Fin 64)}
    (h : judge s r behind = .forward w) : s.Forwards r w := by
  cases hmode : s.mode with
  | openMode => exact judgeOpen_forward hmode (judge_of_open hmode r behind ▸ h)
  | guardMode => exact judgeGuard_forward hmode (judge_of_guard hmode r behind ▸ h)
  | shutMode => rw [judge_of_shut hmode] at h; cases h

/-! ## The changes -/

/-- What a run of the admission path does to the state: it records a fault, places an answer in a free C send place,
forwards a request that has passed, and changes the park queue. -/
inductive RunChange : State → State → Prop
  | record (f : FaultInfo) (s : State) : RunChange s (recordFault f s)
  | place (pkt : Packet) (s : State) (hfree : s.cFree = true) : RunChange s (placeC pkt s)
  | forward (w : Option (Fin 64)) (r : Request) (s : State) (hpass : s.Forwards r w) :
    RunChange s (forwardRequest w r s)
  | park (items : List ParkItem) (s : State) : RunChange s (s.setPark items)

/-- A run of the admission path, a cascade, a trigger (R74, R75, R73). -/
abbrev Runs : State → State → Prop := Relation.ReflTransGen RunChange

/-- A change of the slots' deadline marks, which are carried by WAITING slots only (R91, R97). -/
structure Slot.Clocked (x y : Slot) : Prop where
  state : y.state = x.state
  window : y.window = x.window
  mark : y.drainMark = x.drainMark
  overdue : y.overdue = true → x.overdue = true ∨ x.state = .waiting

/-- The tables as a warm reset clears them, with the slots it has freed on the free list (R26, R110, R148). -/
def State.tablesReset (s : State) (freed : List (Fin 32)) : State :=
  (((s.setSlots (mapTable Slot.ended s.slots)).setFreeList (s.freeList ++ freed)).setWindows
    (mapTable WindowEntry.warmReset s.windows)).setLongOp .idle

/-- One elementary change of an event. -/
inductive Move : State → State → Prop
  /-- Runs of the admission path that together keep the law of the park queue. -/
  | runs {s t : State} (h : Runs s t) (hpark : s.ParkLaw → t.ParkLaw) : Move s t
  /-- Items of state that no law speaks of. -/
  | items (s : State) (pending : List Instr) (limit timeout : Nat) (q : Producer) (due : Nat) (now : Tick) :
    Move s { s with
      pending := pending, parkLimit := limit, answerTimeout := timeout, nextProducer := q, slotTriggersDue := due,
      tick := now }
  /-- The C-port's record, which stays in or out of UP. -/
  | cPort (s : State) (x : PortState) (hlaw : s.cPort.Law → x.Law) (hup : x.isUp = s.cPort.isUp) : Move s (s.setCPort x)
  /-- The M-port's record, whose send queue gains nothing. -/
  | mPort (s : State) (x : PortState) (hlaw : s.mPort.Law → x.Law) (htx : ∀ pkt ∈ x.tx, pkt ∈ s.mPort.tx) :
    Move s (s.setMPort x)
  /-- The lists that wait for the C-port stay empty while it is not UP (R87, R106, R147). -/
  | lists (s : State) (aborts : List AbortEntry) (holds : List HoldEntry) (replies : List Reply)
    (hdown : s.cUp = false → s.abortList = [] ∧ s.holdList = [] ∧ s.replies = [] →
      aborts = [] ∧ holds = [] ∧ replies = []) :
    Move s (((s.setAbortList aborts).setHoldList holds).setReplies replies)
  /-- The C-port leaves UP (R159, R165). -/
  | cLost (s : State) (after : Training) (hafter : after ≠ .up) : Move s (s.cLost after)
  /-- The C-port enters UP with the word it agreed to (R159, R165). -/
  | cArrives (s : State) (o : LinkOffer) (htraining : s.cPort.training = .agree) (ho : s.cPort.agreed = some o) :
    Move s ((s.setCPort (s.cPort.enterUp .c o)).setAlert (s.alert.release true))
  | meters (s : State) (v : Vector Meter 4) (hlaw : ∀ m : Fin 4, (s.meters[m]).Law → (v[m]).Law) :
    Move s (s.setMeters v)
  | slots (s : State) (v : Vector Slot 32) (hclocked : ∀ i : Fin 32, (s.slots[i]).Clocked v[i]) : Move s (s.setSlots v)
  | free (s : State) (i : Fin 32) (hwaiting : (s.slots[i]).state = .waiting) : Move s (freeSlot i s)
  /-- A long operation that nothing keeps in progress ends (R23, R66). -/
  | longDone (s : State) (hretire : s.longOp.isRetire = true → s.anyDraining = false)
    (hmode : s.longOp.isSetMode = true → s.anyMarked = false) : Move s (s.setLongOp .idle)
  /-- The WAITING slots are marked, and a SET_MODE is in progress exactly where there are any (R64, R66). -/
  | mark (s : State) (op : LongOp) (hidle : s.longOp = .idle) (hretire : op.isRetire = false)
    (hmode : op.isSetMode = decide (waitingCount s ≠ 0)) :
    Move s ((s.setSlots (mapTable Slot.marked s.slots)).setLongOp op)
  | tablesReset (s : State) (freed : List (Fin 32)) (hfreed : freed = s.waitingSlots) : Move s (s.tablesReset freed)
  | log (s : State) (l : FaultLog) (hlaw : s.LogLaw → (s.setLog l).LogLaw) : Move s (s.setLog l)
  | alert (s : State) (a : AlertCtl) (hlaw : s.AlertLaw → (s.setAlert a).AlertLaw) : Move s (s.setAlert a)
  | widen (s : State) (i : Fin 64) (r : Rights) (hcovers : r.covers (s.windows[i]).rights = true) :
    Move s (s.setWindow i { s.windows[i] with rights := r })

abbrev Moves : State → State → Prop := Relation.ReflTransGen Move

/-- One elementary change that an event begins with, before it forwards anything. -/
inductive Start : State → State → Prop
  | quiet {s t : State} (h : Move s t) (htx : t.mPort.tx = s.mPort.tx) : Start s t
  /-- RST_N is released or asserted (R157). -/
  | restart (s : State) (straps : Straps) (low : Bool) :
    Start s { State.powerOn straps with
      pending := s.pending, slotTriggerWaits := s.slotTriggerWaits, inReset := low }
  | domains (s : State) (v : Vector DomainRecord 64) : Start s (s.setDomains v)
  /-- A FREE entry is loaded with values in range that overlap no ACTIVE entry (R12 to R14). -/
  | load (s : State) (i : Fin 64) (e : WindowEntry) (hfree : (s.windows[i]).state = .free) (hactive : e.state = .active)
    (hcount : e.inFlight = 0) (hvalues : e.valuesOk = true)
    (hnone : ∀ j : Fin 64, e.conflicts s.windows[j] = false) : Start s (s.setWindow i e)
  /-- ACTIVE entries are retired, and a RETIRE is in progress exactly where one of them is DRAINING (R21, R23). -/
  | retire (s : State) (l : List (Fin 64)) (op : LongOp) (hidle : s.longOp = .idle) (hnodup : l.Nodup)
    (hactive : ∀ i ∈ l, (s.windows[i]).state = .active)
    (hretire : op.isRetire = l.any fun i => (s.windows[i]).inFlight != 0) (hmode : op.isSetMode = false) :
    Start s ((s.setWindows (l.foldl retireEntryAt s).windows).setLongOp op)
  /-- The mode changes, and the park queue is emptied with it (R64). -/
  | mode (s : State) (m : Mode) : Start s ((s.setModeField m).setPark [])

abbrev Starts : State → State → Prop := Relation.ReflTransGen Start

/-- A step: its beginning, then its moves. -/
def Steps (s t : State) : Prop := ∃ u, Starts s u ∧ Moves u t

theorem Moves.steps {s t : State} (h : Moves s t) : Steps s t := ⟨s, .refl, h⟩

theorem Starts.steps {s u t : State} (h : Starts s u) (hsteps : Steps u t) : Steps s t := by
  obtain ⟨v, huv, hvt⟩ := hsteps
  exact ⟨v, h.trans huv, hvt⟩

theorem Steps.trans_moves {s t u : State} (h : Steps s t) (hmoves : Moves t u) : Steps s u := by
  obtain ⟨v, hsv, hvt⟩ := h
  exact ⟨v, hsv, hvt.trans hmoves⟩

end Sys2Proof.Machine
end


section
/-! SUPPORT. The shared operations as runs of elementary changes: answers and faults, triggers, slots, the
losses and arrivals of a port, time. -/

namespace Sys2Proof.Machine

/-! ## Runs of the admission path -/

theorem recordFault_runs (f : FaultInfo) (s : State) : Runs s (recordFault f s) := .single (.record f s)

theorem placeC_runs {s : State} (hfree : s.cFree = true) (pkt : Packet) : Runs s (placeC pkt s) :=
  .single (.place pkt s hfree)

theorem setPark_runs (s : State) (items : List ParkItem) : Runs s (s.setPark items) := .single (.park items s)

theorem recordOpt_runs (f : Option FaultInfo) (s : State) : Runs s (recordOpt f s) := by
  cases f with
  | none => exact .refl
  | some f => exact recordFault_runs f s

theorem answerError_runs {s : State} {r : Request} (hfree : r.kind = .post ∨ s.cFree = true) (status : AnswerStatus) :
    Runs s (answerError status r s) := by
  by_cases hpost : r.kind = .post
  · rw [answerError_post status hpost]
  · have hplace := hfree.resolve_left hpost
    unfold answerError
    split
    · exact placeC_runs hplace _
    · exact placeC_runs hplace _
    · exact .refl

theorem runFresh_runs {s : State} (hfree : s.cFree = true) (r : Request) : Runs s (runFresh r s) := by
  unfold runFresh
  split
  next w hw => exact .single (.forward w r s (judge_forward hw))
  next reason fault _ =>
    unfold parkFresh
    split
    · exact (setPark_runs s _).trans (recordOpt_runs _ _)
    · exact ((answerError_runs (.inr hfree) _).trans (recordOpt_runs _ _)).trans (recordFault_runs _ _)
  next status fault _ => exact (answerError_runs (.inr hfree) _).trans (recordFault_runs _ _)

/-- A run that forwards judges the state as it stands: the M-port is UP (R74, R78). -/
theorem judgeItem_forward {it : ParkItem} {s : State} {w : Option (Fin 64)} (h : judgeItem it s = .forward w) :
    s.Forwards it.req w := by
  have hpass := judge_forward h
  have hport : (judgedFor it s).mPort = s.mPort := by
    unfold judgedFor
    split <;> rfl
  have hup : s.mUp = true := mUp_of_up (hport ▸ hpass.up)
  rwa [judgedFor_of_up hup] at hpass

theorem readmitOnce_runs (it : ParkItem) (s : State) (used : Nat) : Runs s (readmitOnce it s used).1 := by
  unfold readmitOnce
  split
  next w hw =>
    have hforward : Runs s (forwardRequest w it.req s) := .single (.forward w _ s (judgeItem_forward hw))
    exact hforward.trans (setPark_runs _ _)
  next => exact (setPark_runs _ _).trans (recordOpt_runs _ _)
  next =>
    split
    next hplace =>
      exact ((answerError_runs (hplace.imp_right cFree_of_cFreeBeside) _).trans (recordFault_runs _ _)).trans
        (setPark_runs _ _)
    next => exact setPark_runs _ _

theorem readmitOnce_runs_from (s₀ : State) :
    ∀ it s u, it ∈ s.park → Runs s₀ s → Runs s₀ (readmitOnce it s u).1 :=
  fun it s u _ h => h.trans (readmitOnce_runs it s u)

theorem trigger_runs (hits : ParkReason → Bool) (s : State) : Runs s (trigger hits s) :=
  trigger_keeps (P := Runs s) (readmitOnce_runs_from s) hits s .refl

theorem behindTrigger_runs (src : SourceId) (used : Nat) (s : State) : Runs s (behindTrigger src s used) :=
  behindTrigger_keeps (P := Runs s) (readmitOnce_runs_from s) src used s .refl

theorem itemLeaves_runs {s : State} {it : ParkItem} (hfree : s.cFree = true) (status : AnswerStatus)
    (fault : FaultInfo) : Runs s (itemLeaves it status fault s) :=
  (((answerError_runs (.inr hfree) status).trans (recordFault_runs fault _)).trans (setPark_runs _ _)).trans
    (behindTrigger_runs _ _ _)

/-! ## Single moves -/

theorem Move.moves {s t : State} (h : Move s t) : Moves s t := .single h

/-- Runs that leave the park queue and the mode. -/
theorem Runs.moves {s t : State} (h : Runs s t) (hpark : t.park = s.park) (hmode : t.mode = s.mode) : Moves s t :=
  .single (.runs h fun hlaw => parkLaw_congr hlaw hpark hmode)

theorem recordFault_moves (f : FaultInfo) (s : State) : Moves s (recordFault f s) :=
  (recordFault_runs f s).moves (recordFault_park f s) (mode_of_kept (recordFault_kept f s))

theorem placeC_moves {s : State} (hfree : s.cFree = true) (pkt : Packet) : Moves s (placeC pkt s) :=
  (placeC_runs hfree pkt).moves (placeC_park pkt s) (mode_of_kept (placeC_kept pkt s))

theorem reply_moves {s : State} (hfree : s.cFree = true) (p : Packet) (status : MgmtStatus) (results : List Byte) :
    Moves s (reply p status results s) := placeC_moves hfree _

theorem trigger_moves {hits : ParkReason → Bool} (hhits : hits .behind = false) (s : State) :
    Moves s (trigger hits s) := .single (.runs (trigger_runs hits s) (trigger_parkLaw hhits))

theorem setSlotTriggersDue_moves (s : State) (n : Nat) : Moves s (s.setSlotTriggersDue n) :=
  (Move.items s s.pending s.parkLimit s.answerTimeout s.nextProducer n s.tick).moves

theorem grantTo_moves (q : Producer) (s : State) : Moves s (grantTo q s) :=
  (Move.items s s.pending s.parkLimit s.answerTimeout q.next s.slotTriggersDue s.tick).moves

theorem setTick_moves (s : State) (now : Tick) : Moves s (s.setTick now) :=
  (Move.items s s.pending s.parkLimit s.answerTimeout s.nextProducer s.slotTriggersDue now).moves

theorem setParkLimit_moves (s : State) (n : Nat) : Moves s (s.setParkLimit n) :=
  (Move.items s s.pending n s.answerTimeout s.nextProducer s.slotTriggersDue s.tick).moves

theorem setAnswerTimeout_moves (s : State) (n : Nat) : Moves s (s.setAnswerTimeout n) :=
  (Move.items s s.pending s.parkLimit n s.nextProducer s.slotTriggersDue s.tick).moves

/-! ## The lists that wait for the C-port -/

theorem setHoldList_moves {s : State} (hup : s.cUp = true) (l : List HoldEntry) : Moves s (s.setHoldList l) :=
  (Move.lists s s.abortList l s.replies fun hdown => by rw [hup] at hdown; cases hdown).moves

theorem setReplies_moves {s : State} (hup : s.cUp = true) (l : List Reply) : Moves s (s.setReplies l) :=
  (Move.lists s s.abortList s.holdList l fun hdown => by rw [hup] at hdown; cases hdown).moves

theorem listReply_moves (pkt : Packet) (abortAhead holdAhead : Nat) (s : State) :
    Moves s (listReply pkt abortAhead holdAhead s) := by
  unfold listReply
  split
  next hup => exact setReplies_moves hup _
  next => exact .refl

theorem completeRetire_moves (s : State) : Moves s (completeRetire s) := by
  unfold completeRetire
  split
  next hop =>
    split
    next => exact .refl
    next hdrained =>
      have hdone : Move s (s.setLongOp .idle) :=
        .longDone s (fun _ => Bool.eq_false_iff.2 hdrained) fun h => by rw [hop] at h; cases h
      exact hdone.moves.trans (listReply_moves _ _ _ _)
  next => exact .refl
  next => exact .refl

theorem completeSetMode_moves (s : State) : Moves s (completeSetMode s) := by
  unfold completeSetMode
  split
  next hop =>
    split
    next => exact .refl
    next hunmarked =>
      have hdone : Move s (s.setLongOp .idle) :=
        .longDone s (fun h => by rw [hop] at h; cases h) fun _ => Bool.eq_false_iff.2 hunmarked
      exact hdone.moves.trans (listReply_moves _ _ _ _)
  next => exact .refl
  next => exact .refl

/-! ## Triggers and slots -/

theorem slotTrigger_moves (s : State) : Moves s (slotTrigger s) := by
  unfold slotTrigger
  split
  · exact setSlotTriggersDue_moves s _
  · exact trigger_moves rfl s

theorem takeDueTrigger_moves (s : State) : Moves s (takeDueTrigger s) := by
  unfold takeDueTrigger
  split
  · exact .refl
  · exact (setSlotTriggersDue_moves s _).trans (trigger_moves rfl _)

theorem repeat_moves {f : State → State} (hf : ∀ s, Moves s (f s)) (n : Nat) (s : State) : Moves s (Nat.repeat f n s) := by
  induction n with
  | zero => exact .refl
  | succ n ih => exact ih.trans (hf _)

theorem takeDueTriggers_moves (s : State) : Moves s (takeDueTriggers s) :=
  (setSlotTriggersDue_moves s 0).trans (repeat_moves (trigger_moves rfl) _ _)

theorem foldl_moves {α : Type} {f : State → α → State} (hf : ∀ s x, Moves s (f s x)) (l : List α) (s : State) :
    Moves s (l.foldl f s) :=
  foldl_keeps (P := Moves s) (fun u x h => h.trans (hf u x)) l s .refl

theorem freeSlot_moves {s : State} {i : Fin 32} (hwaiting : (s.slots[i]).state = .waiting) : Moves s (freeSlot i s) :=
  (Move.free s i hwaiting).moves

theorem slotFreed_moves {s : State} {i : Fin 32} (hwaiting : (s.slots[i]).state = .waiting) :
    Moves s (slotFreed i s) :=
  (freeSlot_moves hwaiting).trans (slotTrigger_moves _)

theorem answerSlot_moves {s : State} {x : Slot} (hfree : x.kind = .confirm ∨ s.cFree = true) (status : AnswerStatus)
    (data : List Byte) : Moves s (answerSlot x status data s) := by
  unfold answerSlot
  split
  next hkind _ => exact placeC_moves (hfree.resolve_left (by rw [hkind]; decide)) _
  next hkind _ => exact placeC_moves (hfree.resolve_left (by rw [hkind]; decide)) _
  next => exact .refl

theorem answerSlot_slots (x : Slot) (status : AnswerStatus) (data : List Byte) (s : State) :
    (answerSlot x status data s).slots = s.slots := by
  unfold answerSlot
  split
  · exact placeC_slots ..
  · exact placeC_slots ..
  · rfl

theorem answerOrHold_moves (x : Slot) (status : AnswerStatus) (s : State) : Moves s (answerOrHold x status s) := by
  unfold answerOrHold
  split
  next hfree => exact answerSlot_moves (.inr hfree) _ _
  next hfull =>
    have hup : s.cUp = true := by
      by_contra hdown
      exact hfull (cFree_of_not_up (Bool.eq_false_iff.2 hdown))
    split
    · exact setHoldList_moves hup _
    · exact setHoldList_moves hup _
    · exact .refl

theorem expireSlot_moves {s : State} {i : Fin 32} (hwaiting : (s.slots[i]).state = .waiting)
    (hfree : (s.slots[i]).kind = .confirm ∨ s.cFree = true) : Moves s (expireSlot i s) := by
  have hanswer := answerSlot_moves hfree .timeout []
  have hrecord := recordFault_moves (slotFault .answerTimeout (s.slots[i]).locus s.slots[i])
    (answerSlot s.slots[i] .timeout [] s)
  refine (hanswer.trans hrecord).trans (slotFreed_moves ?_)
  rw [recordFault_slots, answerSlot_slots]
  exact hwaiting

/-- One slot's record is replaced by a clocked one. -/
theorem setSlot_moves {s : State} {i : Fin 32} {x : Slot} (h : (s.slots[i]).Clocked x) : Moves s (s.setSlot i x) := by
  refine (Move.slots s _ fun k => ?_).moves
  rw [setAt_get]
  split
  next hk => rw [hk]; exact h
  next => exact ⟨rfl, rfl, rfl, .inl⟩

theorem slotBecomesOverdue_moves (i : Fin 32) (s : State) : Moves s (slotBecomesOverdue i s) := by
  unfold slotBecomesOverdue
  dsimp only
  split
  next hreaches =>
    have hwaiting := ((Slot.reachesDeadline_iff _ _).1 hreaches).1
    have hmark : Moves s (s.setSlot i { s.slots[i] with overdue := true }) :=
      setSlot_moves ⟨rfl, rfl, rfl, fun _ => .inr hwaiting⟩
    have hslot : (s.setSlot i { s.slots[i] with overdue := true }).slots[i] = { s.slots[i] with overdue := true } :=
      setAt_get_same ..
    split
    next hconfirm =>
      refine hmark.trans (expireSlot_moves ?_ (.inl ?_))
      · rw [hslot]; exact hwaiting
      · rw [hslot]; exact hconfirm
    next => exact hmark
  next => exact .refl

theorem routeMatched_moves {s : State} (hfree : s.cFree = true) (x : Slot) (pkt : Packet) :
    Moves s (routeMatched x pkt s) ∧ (routeMatched x pkt s).slots = s.slots := by
  have hanswer (status : AnswerStatus) (data : List Byte) :
      Moves s (answerSlot x status data s) ∧ (answerSlot x status data s).slots = s.slots :=
    ⟨answerSlot_moves (.inr hfree) _ _, answerSlot_slots ..⟩
  unfold routeMatched
  split
  · split
    · exact hanswer _ _
    · split
      · exact ⟨(hanswer _ _).1.trans (recordFault_moves _ _), by rw [recordFault_slots, answerSlot_slots]⟩
      · split <;> exact hanswer _ _
  · exact hanswer _ _
  · split
    · exact ⟨.refl, rfl⟩
    · exact ⟨recordFault_moves _ _, recordFault_slots ..⟩

theorem routeAnswer_moves {s : State} (hfree : s.cFree = true) (pkt : Packet) : Moves s (routeAnswer pkt s) := by
  unfold routeAnswer
  dsimp only
  split
  next hmatch =>
    obtain ⟨hmoves, hslots⟩ := routeMatched_moves hfree s.slots[slotOfTag pkt.tag] pkt
    refine hmoves.trans (slotFreed_moves ?_)
    rw [hslots]
    exact ((matchesTag_iff _ _).1 hmatch).1
  next => exact recordFault_moves _ _

theorem loseSlot_moves (s : State) (i : Fin 32) : Moves s (loseSlot s i) := by
  unfold loseSlot
  dsimp only
  split
  next hwaiting =>
    refine ((answerOrHold_moves _ _ s).trans (recordFault_moves _ _)).trans (freeSlot_moves ?_)
    rw [recordFault_slots, answerOrHold_slots]
    exact hwaiting
  next => exact .refl

/-! ## The ports -/

/-- A change of a port's record that leaves its training state and adds nothing to its send queue. -/
theorem setPort_moves {s : State} {p : Port} {x : PortState} (hlaw : (s.port p).Law → x.Law)
    (htraining : x.isUp = (s.port p).isUp) (htx : ∀ pkt ∈ x.tx, pkt ∈ (s.port p).tx) : Moves s (s.setPort p x) := by
  cases p with
  | c => exact (Move.cPort s x hlaw htraining).moves
  | m => exact (Move.mPort s x hlaw htx).moves

theorem isUp_congr {x y : PortState} (h : x.training = y.training) : x.isUp = y.isUp := by
  rw [PortState.isUp, PortState.isUp, h]

theorem cPortLeavesUp_moves (s : State) {t : Training} (ht : t ≠ .up) : Moves s (cPortLeavesUp t s) := by
  have hlost : Moves s (s.cLost t) := (Move.cLost s t ht).moves
  rw [cPortLeavesUp_eq]
  exact hlost.trans (foldl_moves (fun u f => recordFault_moves f u) _ _)

theorem mPortLeavesUp_moves (s : State) {t : Training} (ht : t ≠ .up) : Moves s (mPortLeavesUp t s) := by
  have hport : Moves s (s.setMPort (s.mPort.leaveUp t)) :=
    (Move.mPort s _ (fun h => h.leaveUp ht) fun _ hpkt => absurd hpkt List.not_mem_nil).moves
  exact ((hport.trans (foldl_moves loseSlot_moves _ _)).trans
    (foldl_moves (fun u pkt => recordFault_moves (postLostFault pkt) u) _ _)).trans (trigger_moves rfl _)

theorem portLeavesUp_moves (p : Port) {t : Training} (ht : t ≠ .up) (s : State) : Moves s (portLeavesUp p t s) := by
  cases p with
  | c => exact cPortLeavesUp_moves s ht
  | m => exact mPortLeavesUp_moves s ht

theorem portReachesUp_moves {s : State} {p : Port} {o : LinkOffer} (htraining : (s.port p).training = .agree)
    (ho : (s.port p).agreed = some o) : Moves s (portReachesUp p o s) := by
  cases p with
  | c => exact (Move.cArrives s o htraining ho).moves
  | m => exact (Move.mPort s _ (fun h => h.enterUp ho .m) fun _ hpkt => hpkt).moves

theorem receiveTrainWord_moves (p : Port) (w : TrainWord) (s : State) : Moves s (receiveTrainWord p w s) := by
  unfold receiveTrainWord
  dsimp only
  split
  next => exact .refl
  next => exact .refl
  next htrain =>
    obtain ⟨hdown, htx⟩ := trainInTrain_training htrain p w
    refine setPort_moves (fun h => h.trainInTrain htrain p w) ?_ fun _ hpkt => htx ▸ hpkt
    rw [isUp_of_not_up hdown, isUp_of_not_up (by rw [htrain]; decide)]
  next hagree =>
    have hdown : (s.port p).training ≠ .up := by rw [hagree]; decide
    split
    next =>
      refine setPort_moves (fun h => h.enter (by decide) hdown) ?_ fun _ hpkt => hpkt
      rw [isUp_of_not_up hdown]
      rfl
    next hsame =>
      split
      · exact setPort_moves (fun h => h.of_bookkeeping rfl) rfl fun _ hpkt => hpkt
      · split
        · exact setPort_moves (fun h => h.of_bookkeeping rfl) rfl fun _ hpkt => hpkt
        · exact portReachesUp_moves hagree (not_not.1 hsame)
  next =>
    split
    · exact .refl
    · exact portLeavesUp_moves p (by decide) s

theorem expireLoss_moves (p : Port) (s : State) : Moves s (expireLoss p s) := by
  unfold expireLoss
  dsimp only
  split
  next =>
    split
    next => exact portLeavesUp_moves p (by decide) s
    next hdown =>
      have hnot : (s.port p).training ≠ .up := fun h => hdown (isUp_of_up h)
      refine setPort_moves (fun h => h.enter (by decide) hnot) ?_ fun _ hpkt => hpkt
      rw [isUp_of_not_up hnot]
      rfl
  next => exact .refl

/-! ## Time -/

theorem setMeter_moves {s : State} {m : Fin 4} {x : Meter} (hlaw : (s.meters[m]).Law → x.Law) :
    Moves s (s.setMeter m x) := by
  refine (Move.meters s _ fun k => ?_).moves
  rw [setAt_get]
  split
  next hk => rw [hk]; exact hlaw
  next => exact id

theorem meterTrigger_moves (m : Fin 4) (s : State) : Moves s (meterTrigger m s) := trigger_moves rfl s

theorem rollOverIfDue_moves (m : Fin 4) (s : State) : Moves s (rollOverIfDue m s) := by
  unfold rollOverIfDue
  split
  · exact (setMeter_moves fun h => h.freshPeriod).trans (meterTrigger_moves m _)
  · exact .refl

/-- The expiry marks change no item's place, reason or request. -/
theorem behindExactly_map {f : ParkItem → ParkItem} (hf : ∀ it, (f it).state = it.state ∧ (f it).req = it.req)
    (l : List ParkItem) (seen : List SourceId) : behindExactly seen (l.map f) = behindExactly seen l := by
  induction l generalizing seen with
  | nil => rfl
  | cons it l ih =>
    have hbehind : (f it).isBehind = it.isBehind := by
      unfold ParkItem.isBehind ParkItem.waitsFor
      rw [(hf it).1]
    rw [List.map_cons, behindExactly, behindExactly, hbehind, (hf it).2, ih]

theorem parkLaw_map {f : ParkItem → ParkItem}
    (hf : ∀ it, (f it).serial = it.serial ∧ (f it).state = it.state ∧ (f it).req = it.req) {s : State}
    (h : s.ParkLaw) : (s.setPark (s.park.map f)).ParkLaw where
  length := by
    show (s.park.map f).length ≤ capacity
    rw [List.length_map]
    exact h.length
  serials := by
    show ((s.park.map f).map ParkItem.serial).Pairwise (· < ·)
    rw [List.map_map, show ParkItem.serial ∘ f = ParkItem.serial from funext fun it => (hf it).1]
    exact h.serials
  behind := (behindExactly_map (fun it => (hf it).2) s.park []).trans h.behind
  shapes := by
    show (s.park.map f).all ParkItem.shapeOk = true
    have hshape : ParkItem.shapeOk ∘ f = ParkItem.shapeOk := funext fun it => by
      show (f it).shapeOk = it.shapeOk
      unfold ParkItem.shapeOk ParkItem.isParked ParkItem.waitsFor
      rw [(hf it).2.1, (hf it).2.2]
    rw [List.all_map, hshape]
    exact h.shapes
  shut hshut := by
    show s.park.map f = []
    rw [h.shut hshut]
    rfl

theorem markExpired_moves (s : State) : Moves s (markExpired s) :=
  .single (.runs (setPark_runs s _) (parkLaw_map fun it => by split <;> exact ⟨rfl, rfl, rfl⟩))

theorem settleDue_moves (s : State) : Moves s (settleDue s) :=
  ((((expireLoss_moves .c s).trans (expireLoss_moves .m _)).trans
    (foldl_moves (fun u m => rollOverIfDue_moves m u) _ _)).trans (markExpired_moves _)).trans
      ((foldl_moves (fun u i => slotBecomesOverdue_moves i u) _ _).trans (takeDueTriggers_moves _))

theorem advanceTime_moves (s : State) : Moves s (advanceTime s) := by
  let a := s.setTick (s.tick + 1)
  let b := a.setMeters (mapTable Meter.countTick s.meters)
  let c := b.setSlots (mapTable Slot.countTick s.slots)
  have hmeters : Moves a b := (Move.meters a _ fun m => by
    rw [mapTable_get]
    exact fun h => h.countTick).moves
  have hslots : Moves b c := (Move.slots b _ fun i => by
    rw [mapTable_get]
    show (s.slots[i]).Clocked (s.slots[i]).countTick
    unfold Slot.countTick
    split <;> exact ⟨rfl, rfl, rfl, .inl⟩).moves
  have hc : Moves c (c.setCPort c.cPort.countLoss) := (Move.cPort c _ (fun h => h.countLoss) rfl).moves
  have hm : Moves (c.setCPort c.cPort.countLoss) ((c.setCPort c.cPort.countLoss).setMPort c.mPort.countLoss) :=
    (Move.mPort _ _ (fun h => h.countLoss) fun _ hpkt => hpkt).moves
  exact (((setTick_moves s _).trans hmeters).trans hslots).trans (hc.trans hm)

end Sys2Proof.Machine
end


section
/-! SUPPORT. The fault log's law and the alert's law under the operations of Chapter 7, and the requests of the
management unit as runs of elementary changes. -/

namespace Sys2Proof.Machine

/-! ## The fault log (R128, R126) -/

theorem logLaw_congr {s t : State} (h : s.LogLaw) (hlog : t.log = s.log) : t.LogLaw :=
  ⟨hlog ▸ h.keys, hlog ▸ h.repeats⟩

/-- Records of the same faults, none newly pending, keep the law. -/
theorem logLaw_of_records {s : State} (h : s.LogLaw) {l : FaultLog}
    (hrecords : ∀ i : Fin 16, ((l.records[i]).pending = true → (s.log.records[i]).pending = true) ∧
      (l.records[i]).info = (s.log.records[i]).info ∧ (l.records[i]).repeatCount ≤ 255) : (s.setLog l).LogLaw where
  keys i j hi hj hkey := by
    obtain ⟨hpi, hinfoi, -⟩ := hrecords i
    obtain ⟨hpj, hinfoj, -⟩ := hrecords j
    exact h.keys i j (hpi hi) (hpj hj) (hinfoi ▸ hinfoj ▸ hkey)
  repeats i := (hrecords i).2.2

/-- A record of the log is replaced by one of the same fault, and the rest is kept. -/
theorem logLaw_setAt {s : State} (h : s.LogLaw) {l : FaultLog} {i : Fin 16} {r : FaultRecord}
    (hl : l.records = setAt s.log.records i r) (hpending : r.pending = true → (s.log.records[i]).pending = true)
    (hinfo : r.info = (s.log.records[i]).info) (hcount : r.repeatCount ≤ 255) : (s.setLog l).LogLaw := by
  refine logLaw_of_records h fun j => ?_
  rw [hl, setAt_get]
  split
  next hj => exact hj ▸ ⟨hpending, hinfo, hcount⟩
  next => exact ⟨id, rfl, h.repeats j⟩

theorem logLaw_release {s : State} (h : s.LogLaw) (i : Fin 16) : (s.setLog (s.log.release i)).LogLaw :=
  logLaw_setAt h (i := i) rfl (fun hp => by cases hp) rfl (h.repeats i)

theorem logLaw_clear {s : State} (h : s.LogLaw) (b : Bool) : (s.setLog { s.log with overflow := b }).LogLaw :=
  logLaw_of_records h fun i => ⟨id, rfl, h.repeats i⟩

/-- A fault whose key no pending record has takes a record of its own (R128 case 4). -/
theorem logLaw_fresh {s : State} (h : s.LogLaw) {f : FaultInfo} (hnew : ∀ i : Fin 16, ¬(s.log.records[i]).Holds f)
    {l : FaultLog} {i : Fin 16} {now : Tick} (hl : l.records = setAt s.log.records i (FaultRecord.fresh f now)) :
    (s.setLog l).LogLaw := by
  have hget (j : Fin 16) : (s.setLog l).log.records[j] = if j = i then FaultRecord.fresh f now else s.log.records[j] := by
    rw [← setAt_get, ← hl]
    rfl
  have holds_of_key {j : Fin 16} (hp : (s.log.records[j]).pending = true)
      (hkey : (s.log.records[j]).info.sameKey f = true) : False :=
    hnew j ((FaultRecord.holds_iff _ f).1 (Bool.and_eq_true_iff.2 ⟨hp, hkey⟩))
  have hsymm (a b : FaultInfo) : a.sameKey b = b.sameKey a := by
    simp only [FaultInfo.sameKey, eq_comm]
  constructor
  · intro j k hj hk hkey
    rw [hget] at hj hk hkey
    rw [hget k] at hkey
    by_cases hji : j = i
    · by_cases hki : k = i
      · rw [hji, hki]
      · rw [if_neg hki] at hk hkey
        rw [if_pos hji, hsymm] at hkey
        exact (holds_of_key hk hkey).elim
    · by_cases hki : k = i
      · rw [if_neg hji] at hj hkey
        rw [if_pos hki] at hkey
        exact (holds_of_key hj hkey).elim
      · rw [if_neg hji] at hj hkey
        rw [if_neg hki] at hk hkey
        exact h.keys j k hj hk hkey
  · intro j
    rw [hget]
    split
    · exact Nat.zero_le _
    · exact h.repeats j

theorem logLaw_record {s : State} (h : s.LogLaw) (f : FaultInfo) (now : Tick) :
    (s.setLog (s.log.record f now).1).LogLaw := by
  rcases FaultLog.record_repeat_or_new s.log f now with ⟨i, -, hrepeat⟩ | hnew
  · rw [hrepeat]
    refine logLaw_setAt h (i := i) rfl id rfl ?_
    have hcount := h.repeats i
    unfold FaultRecord.bump
    dsimp only
    split <;> omega
  · rw [FaultLog.record_new now hnew]
    split
    · exact logLaw_congr h rfl
    · split
      · exact logLaw_clear h true
      · exact logLaw_fresh h hnew rfl

/-! ## The alert (R139, R140) -/

/-- R139 on the alert controller and whether the C-port is UP. -/
structure AlertCtl.Fits (a : AlertCtl) (up : Bool) : Prop where
  pending : a.pending = true → a.mask = true ∨ up = false
  due : a.due = true → a.mask = false ∧ up = true

theorem alertLaw_iff (s : State) : s.AlertLaw ↔ s.alert.Fits s.cUp :=
  ⟨fun h => ⟨h.pending, h.due⟩, fun h => ⟨h.pending, h.due⟩⟩

section
variable {a : AlertCtl} {up : Bool} (h : a.Fits up)
include h

theorem AlertCtl.Fits.condition : (a.condition up).Fits up := by
  rw [condition_eq]
  split
  next => exact ⟨fun hp => (by cases hp), h.due⟩
  next hdue =>
    split
    next hclear => exact ⟨fun hp => (by cases hp), fun _ => hclear⟩
    next hmasked =>
      refine ⟨fun _ => ?_, fun hd => absurd hd hdue⟩
      show a.mask = true ∨ up = false
      cases hmask : a.mask with
      | true => exact .inl rfl
      | false =>
        cases hup : up with
        | true => exact absurd ⟨hmask, hup⟩ hmasked
        | false => exact .inr rfl

theorem AlertCtl.Fits.placed : AlertCtl.Fits { a with due := false } up := ⟨h.pending, fun hd => (by cases hd)⟩

theorem AlertCtl.Fits.withDest (dest : SourceId) : AlertCtl.Fits { a with dest := dest } up := ⟨h.pending, h.due⟩

end

theorem AlertCtl.fits_serviced (a : AlertCtl) (up : Bool) : a.serviced.Fits up :=
  ⟨fun hp => (by cases hp), fun hd => (by cases hd)⟩

/-- With nothing due, the release of a pending alert fits (R140). -/
theorem AlertCtl.fits_release {a : AlertCtl} (hdue : a.due = false) (up : Bool) : (a.release up).Fits up := by
  unfold AlertCtl.release
  split
  next hreleased =>
    rw [Bool.and_eq_true, Bool.and_eq_true, Bool.not_eq_true'] at hreleased
    exact ⟨fun hp => (by cases hp), fun _ => ⟨hreleased.1.2, hreleased.2⟩⟩
  next hkept =>
    refine ⟨fun hp => ?_, fun hd => by rw [hdue] at hd; cases hd⟩
    rw [hp] at hkept
    cases hmask : a.mask with
    | true => exact .inl rfl
    | false =>
      rw [hmask] at hkept
      exact .inr (by simpa using hkept)

/-- A withdrawn alert waits for the mask to clear or for the C-port (R140). -/
theorem AlertCtl.fits_withdraw {a : AlertCtl} {up : Bool} (h : a.mask = true ∨ up = false) : a.withdraw.Fits up := by
  unfold AlertCtl.withdraw
  split
  next => exact ⟨fun _ => h, fun hd => (by cases hd)⟩
  next hdue => exact ⟨fun _ => h, fun hd => absurd hd hdue⟩

theorem AlertCtl.Fits.writeMask {a : AlertCtl} {up : Bool} (h : a.Fits up) (mask : Bool) :
    (a.writeMask mask up).Fits up := by
  unfold AlertCtl.writeMask
  split
  next => exact h
  next hother =>
    cases mask with
    | true => exact AlertCtl.fits_withdraw (.inl rfl)
    | false =>
      refine AlertCtl.fits_release ?_ up
      show a.due = false
      by_contra hdue
      have hclear := (h.due (Bool.eq_true_of_not_eq_false hdue)).1
      rw [hclear] at hother
      exact hother rfl

theorem alertLaw_congr {s t : State} (h : s.AlertLaw) (halert : t.alert = s.alert) (hup : t.cUp = s.cUp) : t.AlertLaw := by
  rw [alertLaw_iff, halert, hup]
  exact (alertLaw_iff s).1 h

theorem alertLaw_set {s : State} {a : AlertCtl} (hfits : s.alert.Fits s.cUp → a.Fits s.cUp) (h : s.AlertLaw) :
    (s.setAlert a).AlertLaw := (alertLaw_iff _).2 (hfits ((alertLaw_iff s).1 h))

theorem setAlert_moves {s : State} {a : AlertCtl} (hfits : s.alert.Fits s.cUp → a.Fits s.cUp) :
    Moves s (s.setAlert a) := (Move.alert s a (alertLaw_set hfits)).moves

theorem serviceAlert_moves (s : State) : Moves s (serviceAlert s) := by
  unfold serviceAlert
  split
  · exact setAlert_moves fun _ => AlertCtl.fits_serviced ..
  · exact .refl

/-! ## Taking and replying -/

theorem cFree_congr {s t : State} (h : t.cPort = s.cPort) : t.cFree = s.cFree := by
  rw [State.cFree, State.cFree, State.cUp, State.cUp, h]

theorem cFree_of_granted {s : State} {q : Producer} (h : s.granted = some q) : s.cFree = true := (granted_claim h).1

theorem takeFromC_cFree (s : State) : (takeFromC s).cFree = s.cFree := by
  show (!s.cPort.takeHead.isUp || decide (s.cPort.takeHead.tx.length < capacity)) = _
  rw [takeHead_isUp, takeHead_tx]
  rfl

theorem takeFromC_moves (s : State) : Moves s (takeFromC s) :=
  (Move.cPort s _ (fun h => h.takeHead) (takeHead_isUp _)).moves.trans (grantTo_moves _ _)

theorem takeFromC_starts (s : State) : Starts s (takeFromC s) :=
  .tail (.single (.quiet (.cPort s _ (fun h => h.takeHead) (takeHead_isUp _)) rfl))
    (.quiet (.items _ s.pending s.parkLimit s.answerTimeout _ s.slotTriggersDue s.tick) rfl)

theorem takeFromM_moves (s : State) : Moves s (takeFromM s) :=
  (Move.mPort s _ (fun h => h.takeHead) fun _ hpkt => takeHead_tx s.mPort ▸ hpkt).moves.trans (grantTo_moves _ _)

theorem withLength_moves {n : Nat} {p : Packet} {s : State} {f : State → State} (hfree : s.cFree = true)
    (h : Moves s (f s)) : Moves s (withLength n p s f) := by
  unfold withLength
  split
  · exact h
  · exact reply_moves hfree ..

theorem withLength_steps {n : Nat} {p : Packet} {s : State} {f : State → State} (hfree : s.cFree = true)
    (h : Steps s (f s)) : Steps s (withLength n p s f) := by
  unfold withLength
  split
  · exact h
  · exact (reply_moves hfree ..).steps

theorem writeSetting_moves {s t : State} {item v : Nat} (h : writeSetting s item v = some t) :
    Moves s t ∧ t.cPort = s.cPort := by
  rcases writeSetting_cases h with ⟨-, rfl⟩ | ⟨-, rfl⟩ | ⟨m, rfl⟩ | rfl
  · exact ⟨(setParkLimit_moves s v).trans (markExpired_moves _), rfl⟩
  · exact ⟨setAnswerTimeout_moves s v, rfl⟩
  · exact ⟨setAlert_moves fun h => h.writeMask m, rfl⟩
  · exact ⟨setAlert_moves fun h => h.withDest _, rfl⟩

section
variable {s : State} (hfree : s.cFree = true) (p : Packet)
include hfree

/-- A request that reads the state is answered and does no more. -/
theorem readingBody_moves (n : Nat) {f : State → State}
    (h : ∃ status results, f s = reply p status results s) : Moves s (withLength n p s f) := by
  obtain ⟨status, results, heq⟩ := h
  exact withLength_moves hfree (heq ▸ reply_moves hfree ..)

/-- A request that changes the state and then replies. -/
theorem reply_after_moves {t : State} (h : Moves s t) (hport : t.cPort = s.cPort) (status : MgmtStatus)
    (results : List Byte) : Moves s (reply p status results t) :=
  h.trans (reply_moves ((cFree_congr hport).trans hfree) ..)

/-! ## The log, the settings and the meters -/

theorem mgmtReleaseFault_moves : Moves s (mgmtReleaseFault p s) := by
  unfold mgmtReleaseFault
  refine withLength_moves hfree ?_
  split
  next i _ =>
    split
    next =>
      have hrelease : Moves s (s.setLog (s.log.release i)) := (Move.log s _ fun h => logLaw_release h i).moves
      refine reply_after_moves hfree p (hrelease.trans (serviceAlert_moves _)) ?_ _ _
      rw [serviceAlert_setLog]
      rfl
    next => exact reply_moves hfree ..
  next => exact reply_moves hfree ..

theorem mgmtClearOverflow_moves : Moves s (mgmtClearOverflow p s) := by
  unfold mgmtClearOverflow
  refine withLength_moves hfree ?_
  dsimp only
  split
  next =>
    have hclear : Moves s (s.setLog { s.log with overflow := false }) := (Move.log s _ fun h => logLaw_clear h _).moves
    refine reply_after_moves hfree p (hclear.trans (serviceAlert_moves _)) ?_ _ _
    rw [serviceAlert_setLog]
    rfl
  next => exact reply_moves hfree ..

theorem mgmtPortStatus_moves : Moves s (mgmtPortStatus p s) := by
  unfold mgmtPortStatus
  refine withLength_moves hfree ?_
  split
  next q _ =>
    have hclear : Moves s (s.setPort q { s.port q with indications := Indications.clear }) :=
      setPort_moves (fun h => h.of_bookkeeping rfl) rfl fun _ hpkt => hpkt
    refine hclear.trans (reply_moves ?_ ..)
    cases q <;> exact hfree
  next => exact reply_moves hfree ..

theorem mgmtSetSetting_moves : Moves s (mgmtSetSetting p s) := by
  rcases mgmtSetSetting_cases p s with ⟨status, heq⟩ | ⟨item, v, t, results, hwrite, heq⟩
  · exact heq ▸ reply_moves hfree ..
  · obtain ⟨hmoves, hport⟩ := writeSetting_moves hwrite
    exact heq ▸ reply_after_moves hfree p hmoves hport _ _

theorem mgmtSetMeterSetting_moves : Moves s (mgmtSetMeterSetting p s) := by
  unfold mgmtSetMeterSetting
  refine withLength_moves hfree ?_
  split
  next m g _ hg =>
    obtain ⟨hlow, hhigh, hbudget⟩ := meterSettingsOf_ranges hg
    have hset : Moves s (s.setMeter m ((s.meters[m]).afterSettings g)) :=
      setMeter_moves fun h => h.afterSettings hlow hhigh hbudget
    have hreplied := reply_after_moves hfree p hset rfl .ok
      (itemByte (byteAt p.payload 1) ++ ((s.setMeter m ((s.meters[m]).afterSettings g)).meters[m]).bytes)
    dsimp only
    split
    · exact hreplied.trans (meterTrigger_moves m _)
    · exact hreplied
  next => exact reply_moves hfree ..

theorem meterControl_moves (action : Nat) {act : Meter → Meter} (hact : ∀ x : Meter, x.Law → (act x).Law)
    (gives : Bool) : Moves s (meterControl action act gives p s) := by
  unfold meterControl
  refine withLength_moves hfree ?_
  split
  next m _ =>
    split
    · have hset : Moves s (s.setMeter m (act s.meters[m])) := setMeter_moves (hact _)
      have hreplied := reply_after_moves hfree p hset rfl .ok (((s.setMeter m (act s.meters[m])).meters[m]).bytes)
      dsimp only
      split
      · exact hreplied.trans (meterTrigger_moves m _)
      · exact hreplied
    · exact reply_moves hfree ..
  next => exact reply_moves hfree ..

/-! ## The domain table and the window table -/

theorem mgmtSetDomain_steps : Steps s (mgmtSetDomain p s) := by
  rcases mgmtSetDomain_cases p s with ⟨status, heq⟩ | ⟨i, r, results, -, -, -, heq⟩
  · exact heq ▸ (reply_moves hfree ..).steps
  · have hset : Starts s (s.setDomains (setAt s.domains i r)) := .single (.domains s _)
    have hfree' : (s.setDomains (setAt s.domains i r)).cFree = true := hfree
    exact heq ▸ hset.steps (reply_moves hfree' ..).steps

theorem mgmtLoadWindow_steps : Steps s (mgmtLoadWindow p s) := by
  unfold mgmtLoadWindow
  refine withLength_steps hfree ?_
  split
  next i e _ he =>
    split
    next => exact (reply_moves hfree ..).steps
    next hstate =>
      split
      next => exact (reply_moves hfree ..).steps
      next hnone =>
        obtain ⟨-, -, -, -, hvalues, hactive, hcount, -⟩ := windowOf_some he
        have hload : Starts s (s.setWindow i e) :=
          .single (.load s i e (not_not.1 hstate) hactive hcount hvalues ((findIndex_eq_none_iff _ _).1 hnone))
        have hfree' : (s.setWindow i e).cFree = true := hfree
        exact hload.steps (Moves.steps ((reply_moves hfree' ..).trans (trigger_moves (hits := (· == .miss)) rfl _)))
  next => exact (reply_moves hfree ..).steps

theorem mgmtWidenWindow_moves : Moves s (mgmtWidenWindow p s) := by
  unfold mgmtWidenWindow
  refine withLength_moves hfree ?_
  split
  next i r _ _ =>
    split
    next => exact reply_moves hfree ..
    next =>
      split
      next => exact reply_moves hfree ..
      next hcovers =>
        have hwiden : Moves s (s.setWindow i { s.windows[i] with rights := r }) :=
          (Move.widen s i r (by simpa using hcovers)).moves
        exact reply_after_moves hfree p hwiden rfl _ _
  next => exact reply_moves hfree ..

theorem retireSelected_steps {l : List (Fin 64)} (hidle : s.longOp = .idle) (hnodup : l.Nodup)
    (hactive : ∀ i ∈ l, (s.windows[i]).state = .active) (widened : Bool) :
    Steps s (retireSelected l widened p s) := by
  obtain ⟨hframe, -⟩ := foldl_retireEntryAt hnodup s
  unfold retireSelected
  dsimp only
  rw [hframe]
  split
  next hflying =>
    have hretire : Start s ((s.setWindows (l.foldl retireEntryAt s).windows).setLongOp
        (.retire p.source p.tag l.length widened)) := .retire s l _ hidle hnodup hactive hflying.symm rfl
    exact Starts.steps (.single hretire) (Moves.steps .refl)
  next hgrounded =>
    have hretire : Start s ((s.setWindows (l.foldl retireEntryAt s).windows).setLongOp .idle) :=
      .retire s l _ hidle hnodup hactive (Bool.eq_false_iff.2 hgrounded).symm rfl
    have hsame : (s.setWindows (l.foldl retireEntryAt s).windows).setLongOp .idle =
        s.setWindows (l.foldl retireEntryAt s).windows := by
      rw [← hidle]
      rfl
    have hfree' : (s.setWindows (l.foldl retireEntryAt s).windows).cFree = true := hfree
    exact Starts.steps (.single (hsame ▸ hretire)) (reply_moves hfree' ..).steps

theorem retireChecked_steps {f : State → State} (h : s.longOp = .idle → Steps s (f s)) :
    Steps s (retireChecked p s f) := by
  unfold retireChecked
  refine withLength_steps hfree ?_
  split
  next hidle => exact h hidle
  next => exact (reply_moves hfree ..).steps

theorem retireActive_steps (sel : WindowEntry → Bool) (widened : Bool) (hidle : s.longOp = .idle) :
    Steps s (retireSelected (activeEntries s sel) widened p s) :=
  retireSelected_steps hfree p hidle (activeEntries_nodup s sel) (fun _ hi => (mem_activeEntries.1 hi).1) widened

theorem mgmtRetireEntry_steps : Steps s (mgmtRetireEntry p s) := by
  refine retireChecked_steps hfree p fun hidle => ?_
  split
  next i _ =>
    split
    · exact (reply_moves hfree ..).steps
    · split
      next hactive =>
        refine retireSelected_steps hfree p hidle (List.nodup_singleton i) (fun j hj => ?_) false
        rw [List.mem_singleton.1 hj]
        exact hactive
      · exact (reply_moves hfree ..).steps
  next => exact (reply_moves hfree ..).steps

theorem mgmtRetireRange_steps : Steps s (mgmtRetireRange p s) := by
  refine retireChecked_steps hfree p fun hidle => ?_
  dsimp only
  split
  next =>
    split
    · exact (reply_moves hfree ..).steps
    · exact retireActive_steps hfree p _ _ hidle
  next => exact (reply_moves hfree ..).steps

theorem mgmtRetireDomain_steps : Steps s (mgmtRetireDomain p s) := by
  refine retireChecked_steps hfree p fun hidle => ?_
  split
  next => exact retireActive_steps hfree p _ _ hidle
  next => exact (reply_moves hfree ..).steps

theorem mgmtRetireAll_steps : Steps s (mgmtRetireAll p s) :=
  retireChecked_steps hfree p fun hidle => retireActive_steps hfree p _ _ hidle

end

/-! ## SET_MODE and RESET(WARM) -/

/-- Packets that find places join the C send queue; none while the C-port is not UP. -/
theorem placedC_moves {s : State} {pkts : List Packet} (hroom : s.cUp = true → pkts.length ≤ 16 - s.cPort.tx.length) :
    Moves s (s.setCPort (s.placedC pkts)) := by
  refine (Move.cPort s _ (fun h => ?_) (placedC_isUp ..)).moves
  cases hup : s.cUp with
  | true =>
    have htx : s.cPort.tx.length ≤ 16 := h.tx
    rw [placedC_of_up hup]
    refine h.of_tx ((isUp_iff _).1 hup) ?_
    rw [List.length_append]
    have := hroom hup
    show _ ≤ 16
    omega
  | false => rw [placedC_of_down hup]; exact h

theorem parkLaw_empty (s : State) : (s.setPark []).ParkLaw where
  length := Nat.zero_le _
  serials := List.Pairwise.nil
  behind := rfl
  shapes := rfl
  shut _ := rfl

theorem setParkEmpty_moves (s : State) : Moves s (s.setPark []) :=
  .single (.runs (setPark_runs s []) fun _ => parkLaw_empty s)

/-- While the C-port is not UP every owed answer is discarded and none waits (R59, R87). -/
theorem drop_freeFor_of_down {α : Type} {s : State} (h : s.cUp = false) (l : List α) : l.drop (s.freeFor l.length) = [] := by
  rw [freeFor_of_down h, List.drop_length]

theorem modeChanged_steps {s : State} (m : Mode) {op : LongOp} (hidle : s.longOp = .idle)
    (hretire : op.isRetire = false) (hmode : op.isSetMode = decide (waitingCount s ≠ 0)) :
    Steps s ((s.modeChanged m).setLongOp op) := by
  let owed := s.park.filterMap ParkItem.owed
  let a := (s.setModeField m).setPark []
  let pkts := (owed.take (s.freeFor owed.length)).map (s.endAnswer .aborted)
  let aborts := s.abortList ++ (owed.drop (s.freeFor owed.length)).map (abortEntry true)
  let b := a.setCPort (a.placedC pkts)
  let c := ((b.setAbortList aborts).setHoldList s.holdList).setReplies s.replies
  have hstart : Starts s a := .single (.mode s m)
  have hplaced : Moves a b := placedC_moves fun hup => by
    have hfree : s.freeFor owed.length = 16 - s.cPort.tx.length := freeFor_of_up hup _
    rw [List.length_map, List.length_take, hfree]
    exact Nat.min_le_left _ _
  have hlists : Moves b c := (Move.lists b _ _ _ fun hdown hempty => by
    have hs : s.cUp = false := (placedC_isUp a pkts).symm.trans hdown
    refine ⟨?_, hempty.2⟩
    show s.abortList ++ (owed.drop (s.freeFor owed.length)).map (abortEntry true) = []
    rw [show s.abortList = [] from hempty.1, drop_freeFor_of_down hs]
    rfl).moves
  have hmark : Moves c ((c.setSlots (mapTable Slot.marked c.slots)).setLongOp op) :=
    (Move.mark c op hidle hretire hmode).moves
  have heq : (s.modeChanged m).setLongOp op = (c.setSlots (mapTable Slot.marked c.slots)).setLongOp op := by
    rw [modeChanged_eq]
    rfl
  rw [heq]
  exact hstart.steps (Moves.steps ((hplaced.trans hlists).trans hmark))

/-- Without answers owed a mode change places none. -/
theorem modeChanged_cPort {s : State} (h : answersOwed s = false) (m : Mode) : (s.modeChanged m).cPort = s.cPort := by
  have hposts (it : ParkItem) (hit : it ∈ s.park) : it.owed = none := by
    have hkind : it.req.kind = .post := by
      by_contra hother
      rw [(answersOwed_iff s).2 ⟨it, hit, hother⟩] at h
      cases h
    unfold ParkItem.owed
    rw [hkind]
  have hnone : s.park.filterMap ParkItem.owed = [] := List.filterMap_eq_nil_iff.2 hposts
  rw [modeChanged_eq, hnone]
  show s.placedC ((List.take (s.freeFor 0) []).map (s.endAnswer .aborted)) = s.cPort
  rw [List.take_nil, List.map_nil]
  unfold State.placedC
  split
  · rw [List.append_nil]
  · rfl

theorem changeMode_steps {s : State} (hfree : s.cFree = true) (hidle : s.longOp = .idle) (m : Mode) (p : Packet) :
    Steps s (changeMode m p s) := by
  rw [changeMode_eq]
  split
  next hwaiting => exact modeChanged_steps m hidle rfl (decide_eq_true hwaiting).symm
  next hnone =>
    have hchanged : Steps s (s.modeChanged m) := by
      have hsteps := modeChanged_steps m hidle (op := .idle) rfl (decide_eq_false hnone).symm
      have hsame : (s.modeChanged m).setLongOp .idle = s.modeChanged m := by
        rw [modeChanged_eq, ← hidle]
        rfl
      exact hsame ▸ hsteps
    split
    next => exact hchanged.trans_moves (listReply_moves _ _ _ _)
    next hnotowed =>
      refine hchanged.trans_moves (reply_moves ?_ ..)
      exact (cFree_congr (modeChanged_cPort (Bool.eq_false_iff.2 hnotowed) m)).trans hfree

theorem mgmtSetMode_steps {s : State} (hfree : s.cFree = true) (p : Packet) : Steps s (mgmtSetMode p s) := by
  unfold mgmtSetMode
  refine withLength_steps hfree ?_
  split
  next => exact (reply_moves hfree ..).steps
  next m _ =>
    split
    · exact (reply_moves hfree ..).steps
    next hidle =>
      split
      · exact (reply_moves hfree ..).steps
      · exact changeMode_steps hfree (not_not.1 hidle) m p

theorem resetPlaced_length {s : State} (hup : s.cUp = true) : s.resetPlaced.length ≤ 16 - s.cPort.tx.length := by
  rw [State.resetPlaced, List.length_map, List.length_append, List.length_take, List.length_take, State.resetFree,
    freeFor_of_up hup]
  omega

theorem resetLists_of_down {s : State} (hdown : s.cUp = false) :
    s.resetAborts = s.abortList ∧ s.resetHolds = s.holdList := by
  have hfree : s.resetFree = s.itemsOwed.length + s.slotsOwed.length := freeFor_of_down hdown _
  rw [State.resetAborts, State.resetHolds, hfree, Nat.add_sub_cancel_left, List.drop_length,
    List.drop_of_length_le (Nat.le_add_right _ _)]
  exact ⟨List.append_nil _, List.append_nil _⟩

theorem waitingSlots_congr {s t : State} (h : s.slots = t.slots) : s.waitingSlots = t.waitingSlots := by
  rw [State.waitingSlots, State.waitingSlots, h]

/-- The parts of a warm reset that end items: the park queue, the answers placed, the M send queue, the meters (R154). -/
theorem resetItems_moves {s : State} {pkts : List Packet}
    (hroom : s.cUp = true → pkts.length ≤ 16 - s.cPort.tx.length) :
    Moves s ((((s.setPark []).setCPort (s.placedC pkts)).setMPort { s.mPort with tx := [] }).setMeters
      (mapTable Meter.warmReset s.meters)) := by
  have hplaced : Moves (s.setPark []) ((s.setPark []).setCPort (s.placedC pkts)) := placedC_moves (s := s.setPark []) hroom
  have hport : Moves _ (((s.setPark []).setCPort (s.placedC pkts)).setMPort { s.mPort with tx := [] }) :=
    (Move.mPort _ _ (fun h => h.of_no_tx) fun _ hpkt => absurd hpkt List.not_mem_nil).moves
  refine (((setParkEmpty_moves s).trans hplaced).trans hport).trans (Move.meters _ _ fun m => ?_).moves
  rw [mapTable_get]
  exact fun h => h.warmReset

/-- The parts of a warm reset that list what waits and clear the tables (R154). -/
theorem resetLists_moves {s : State} {aborts : List AbortEntry} {holds : List HoldEntry} {replies : List Reply}
    {freed : List (Fin 32)} (hfreed : freed = s.waitingSlots)
    (hdown : s.cUp = false → s.abortList = [] ∧ s.holdList = [] ∧ s.replies = [] →
      aborts = [] ∧ holds = [] ∧ replies = []) :
    Moves s (((((s.setAbortList aborts).setHoldList holds).setReplies replies)).tablesReset freed) := by
  refine (Move.lists s aborts holds replies hdown).moves.trans (Move.tablesReset _ freed ?_).moves
  rw [hfreed]
  exact waitingSlots_congr rfl

/-- The parts of a warm reset together. -/
theorem resetParts_moves {s : State} {pkts : List Packet} {aborts : List AbortEntry} {holds : List HoldEntry}
    {replies : List Reply} (hroom : s.cUp = true → pkts.length ≤ 16 - s.cPort.tx.length)
    (hdown : s.cUp = false → s.abortList = [] ∧ s.holdList = [] ∧ s.replies = [] →
      aborts = [] ∧ holds = [] ∧ replies = []) :
    Moves s { s with
      park := []
      abortList := aborts
      holdList := holds
      cPort := s.placedC pkts
      mPort := { s.mPort with tx := [] }
      slots := mapTable Slot.ended s.slots
      freeList := s.freeList ++ s.waitingSlots
      windows := mapTable WindowEntry.warmReset s.windows
      meters := mapTable Meter.warmReset s.meters
      longOp := .idle
      replies := replies } := by
  have hitems := resetItems_moves hroom
  have hlists := hitems.trans (resetLists_moves (aborts := aborts) (holds := holds) (replies := replies)
    (freed := s.waitingSlots) (waitingSlots_congr rfl) fun hd => hdown ((placedC_isUp s pkts).symm.trans hd))
  simp only [State.tablesReset, State.setSlots, State.setFreeList, State.setWindows, State.setLongOp, State.setReplies,
    State.setHoldList, State.setAbortList, State.setMeters, State.setMPort, State.setCPort, State.setPark] at hlists
  exact hlists

theorem warmReset_moves (p : Packet) (s : State) : Moves s (warmReset p s) := by
  rw [warmReset_eq]
  refine resetParts_moves resetPlaced_length fun hdown hempty => ?_
  obtain ⟨haborts, hholds, hreplies⟩ := hempty
  obtain ⟨hresetAborts, hresetHolds⟩ := resetLists_of_down hdown
  refine ⟨hresetAborts.trans haborts, hresetHolds.trans hholds, ?_⟩
  rw [hdown]
  exact hreplies

theorem mgmtResetWarm_moves {s : State} (hfree : s.cFree = true) (p : Packet) : Moves s (mgmtResetWarm p s) := by
  unfold mgmtResetWarm
  refine withLength_moves hfree ?_
  split
  · exact warmReset_moves p s
  · exact reply_moves hfree ..

end Sys2Proof.Machine
end


section
/-! SUPPORT. Every command, and so every step, as a run of elementary changes. -/

namespace Sys2Proof.Machine

/-! ## The claims for a C send place -/

theorem grantTo_cFree (q : Producer) (s : State) : (grantTo q s).cFree = s.cFree := cFree_congr rfl

theorem mem_of_parkClaim {s : State} {it : ParkItem} (h : s.parkClaim = some it) : it ∈ s.park := by
  unfold State.parkClaim at h
  split at h
  · exact List.mem_of_find?_eq_some h
  · cases h

theorem itemLeaves_moves {s : State} {it : ParkItem} (hfree : s.cFree = true) (hmem : it ∈ s.park)
    (status : AnswerStatus) (fault : FaultInfo) : Moves s (itemLeaves it status fault s) :=
  .single (.runs (itemLeaves_runs hfree status fault) fun h => itemLeaves_parkLaw h hmem status fault)

theorem takeParkClaim_moves {act : ParkItem → State → State}
    (hact : ∀ it u, u.cFree = true → it ∈ u.park → Moves u (act it u)) (leaving : Bool) (s : State) :
    Moves s (takeParkClaim leaving act s) := by
  unfold takeParkClaim
  split
  next hgrant =>
    split
    next it hit =>
      split
      · refine (grantTo_moves _ s).trans (hact it _ ?_ (mem_of_parkClaim hit))
        rw [grantTo_cFree]
        exact cFree_of_granted hgrant
      · exact .refl
    next => exact .refl
  next => exact .refl

theorem leaveItem_moves (it : ParkItem) (u : State) (hfree : u.cFree = true) (hmem : it ∈ u.park) :
    Moves u (leaveItem it u) := by
  unfold leaveItem
  split
  · exact itemLeaves_moves hfree hmem _ _
  · exact .refl

/-- A producer that is granted places a packet. -/
theorem placeGranted_moves {s : State} {q : Producer} (hgrant : s.granted = some q) (pkt : Packet) :
    Moves s (placeC pkt (grantTo q s)) :=
  (grantTo_moves q s).trans (placeC_moves ((grantTo_cFree q s).trans (cFree_of_granted hgrant)) pkt)

theorem placeAbortHead_moves (s : State) : Moves s (placeAbortHead s) := by
  unfold placeAbortHead
  split
  next hgrant =>
    split
    next => exact .refl
    next a rest habort =>
      let t := placeC (answerPacket s a.dest a.tag .aborted a.length []) (grantTo .parkQueue s)
      have habort' : t.abortList = a :: rest := (placeC_abortList _ _).trans habort
      exact (placeGranted_moves hgrant _).trans (Move.lists t rest t.holdList _ fun _ hempty => by
        rw [habort'] at hempty
        cases hempty.1).moves
  next => exact .refl

theorem placeReplyHead_moves (s : State) : Moves s (placeReplyHead s) := by
  unfold placeReplyHead
  split
  next hgrant =>
    split
    next r _ =>
      let t := placeC r.packet (grantTo .management s)
      have hreplies : t.replies = s.replies := placeC_replies _ _
      exact (placeGranted_moves hgrant _).trans (Move.lists t t.abortList t.holdList _ fun _ hempty =>
        ⟨hempty.1, hempty.2.1, by rw [← hreplies, hempty.2.2]; rfl⟩).moves
    next => exact .refl
  next => exact .refl

theorem placeAlert_moves (s : State) : Moves s (placeAlert s) := by
  unfold placeAlert
  split
  next hgrant => exact (placeGranted_moves hgrant _).trans (setAlert_moves fun h => h.placed)
  next => exact .refl

/-! ## The router -/

theorem placeHoldHead_moves (s : State) : Moves s (placeHoldHead s) := by
  unfold placeHoldHead
  split
  next hgrant =>
    split
    next => exact .refl
    next h rest hhold =>
      let t := placeC (answerPacket s h.dest h.tag h.status h.length []) (grantTo .router s)
      have hhold' : t.holdList = h :: rest := (placeC_holdList _ _).trans hhold
      have hlists : Moves s ((t.setHoldList rest).setReplies (t.replies.map Reply.holdPlaced)) :=
        (placeGranted_moves hgrant _).trans (Move.lists t t.abortList rest _ fun _ hempty => by
          rw [hhold'] at hempty
          cases hempty.2.1).moves
      dsimp only
      split
      · exact hlists.trans (slotTrigger_moves _)
      · exact hlists
  next => exact .refl

theorem takeFromM_cFree (s : State) : (takeFromM s).cFree = s.cFree := cFree_congr rfl

theorem takeAnswer_moves (s : State) : Moves s (takeAnswer s) := by
  unfold takeAnswer
  split
  next hgrant =>
    split
    next =>
      split
      · exact (takeFromM_moves s).trans (routeAnswer_moves ((takeFromM_cFree s).trans (cFree_of_granted hgrant)) _)
      · exact .refl
    next => exact .refl
  next => exact .refl

theorem takeDeadlineExpiry_moves (s : State) : Moves s (takeDeadlineExpiry s) := by
  unfold takeDeadlineExpiry
  split
  next hgrant =>
    split
    next i hi =>
      have hwaiting := ((Slot.claimsExpiry_iff _).1 ((firstOverdue_eq_some_iff s i).1 hi).1).1
      exact (grantTo_moves _ s).trans
        (expireSlot_moves hwaiting (.inr ((grantTo_cFree _ s).trans (cFree_of_granted hgrant.1))))
    next => exact .refl
  next => exact .refl

/-! ## The admission unit -/

theorem takeRequest_moves (pk : PacketKind) (k : ReqKind) (s : State) : Moves s (takeRequest pk k s) := by
  rcases takeRequest_cases pk k s with h | ⟨p, hp, -, h⟩
  · rw [h]
  · have hfree : (takeFromC s).cFree = true :=
      (takeFromC_cFree s).trans (cFree_of_granted (granted_of_packetToTake hp))
    have hruns : Moves (takeFromC s) (runFresh (requestOf k p) (takeFromC s)) :=
      .single (.runs (runFresh_runs hfree _) fun hlaw => runFresh_parkLaw hlaw (requestOf_shapeOk k p))
    exact h ▸ (takeFromC_moves s).trans hruns

theorem mgmtGetSetting_moves {s : State} (hfree : s.cFree = true) (p : Packet) : Moves s (mgmtGetSetting p s) := by
  refine readingBody_moves hfree p 2 ?_
  split <;> exact ⟨_, _, rfl⟩

theorem mgmtGetDomain_moves {s : State} (hfree : s.cFree = true) (p : Packet) : Moves s (mgmtGetDomain p s) := by
  refine readingBody_moves hfree p 2 ?_
  split <;> exact ⟨_, _, rfl⟩

theorem mgmtReadWindow_moves {s : State} (hfree : s.cFree = true) (p : Packet) : Moves s (mgmtReadWindow p s) := by
  refine readingBody_moves hfree p 2 ?_
  split <;> exact ⟨_, _, rfl⟩

theorem mgmtReadFault_moves {s : State} (hfree : s.cFree = true) (p : Packet) : Moves s (mgmtReadFault p s) := by
  refine readingBody_moves hfree p 2 ?_
  split <;> exact ⟨_, _, rfl⟩

/-- Every management request, on a state with a free C send place. -/
theorem body_steps (row : MgmtRow) (p : Packet) {s : State} (hfree : s.cFree = true) : Steps s (row.body p s) := by
  cases row with
  | identify => exact (readingBody_moves hfree p 1 ⟨_, _, rfl⟩).steps
  | getSetting => exact (mgmtGetSetting_moves hfree p).steps
  | getDomain => exact (mgmtGetDomain_moves hfree p).steps
  | readWindow => exact (mgmtReadWindow_moves hfree p).steps
  | readFault => exact (mgmtReadFault_moves hfree p).steps
  | faultSummary => exact (readingBody_moves hfree p 1 ⟨_, _, rfl⟩).steps
  | badRequest => exact (reply_moves hfree ..).steps
  | setSetting => exact (mgmtSetSetting_moves hfree p).steps
  | setMeterSetting => exact (mgmtSetMeterSetting_moves hfree p).steps
  | setDomain => exact mgmtSetDomain_steps hfree p
  | loadWindow => exact mgmtLoadWindow_steps hfree p
  | widenWindow => exact (mgmtWidenWindow_moves hfree p).steps
  | retireEntry => exact mgmtRetireEntry_steps hfree p
  | retireRange => exact mgmtRetireRange_steps hfree p
  | retireDomain => exact mgmtRetireDomain_steps hfree p
  | retireAll => exact mgmtRetireAll_steps hfree p
  | setMode => exact mgmtSetMode_steps hfree p
  | meterRun => exact (meterControl_moves hfree p 0 (fun _ h => h.run) false).steps
  | meterStop => exact (meterControl_moves hfree p 1 (fun _ h => h.stop) true).steps
  | meterRestart => exact (meterControl_moves hfree p 2 (fun _ h => h.freshPeriod) true).steps
  | releaseFault => exact (mgmtReleaseFault_moves hfree p).steps
  | clearOverflow => exact (mgmtClearOverflow_moves hfree p).steps
  | portStatus => exact (mgmtPortStatus_moves hfree p).steps
  | resetWarm => exact (mgmtResetWarm_moves hfree p).steps

theorem takeMreq_steps (row : MgmtRow) (s : State) : Steps s (takeMreq row row.body s) := by
  rcases takeMreq_cases row row.body s with h | ⟨p, hp, -, -, htaken⟩
  · rw [h]
    exact Moves.steps .refl
  · have hfree : (takeFromC s).cFree = true :=
      (takeFromC_cFree s).trans (cFree_of_granted (granted_of_packetToTake hp))
    rcases htaken with ⟨-, h⟩ | h
    · exact h ▸ (takeFromC_starts s).steps (body_steps row p hfree)
    · exact h ▸ Moves.steps (((takeFromC_moves s).trans (reply_moves hfree ..)).trans (recordFault_moves _ _))

/-! ## Every command -/

theorem whenRunning_steps {s t : State} {f : State → State} (h : whenRunning s f = .next t) (hf : Steps s (f s)) :
    Steps s t := by
  unfold whenRunning at h
  cases h
  split
  · exact Moves.steps .refl
  · exact hf

theorem whenRunning_moves {s t : State} {f : State → State} (h : whenRunning s f = .next t) (hf : Moves s (f s)) :
    Steps s t := whenRunning_steps h hf.steps

theorem exec_command_steps (row : MgmtRow) {s t : State} (h : exec row.command s = .next t) : Steps s t := by
  rw [exec_command] at h
  exact whenRunning_steps h (takeMreq_steps row s)

theorem restart_steps (s : State) (straps : Straps) (low : Bool) :
    Steps s { State.powerOn straps with
      pending := s.pending, slotTriggerWaits := s.slotTriggerWaits, inReset := low } :=
  Starts.steps (.single (.restart s straps low)) (Moves.steps .refl)

section
variable (p : Port) (s : State)

theorem alignmentAcquired_moves :
    Moves s (if (s.port p).training = .down then s.setPort p ((s.port p).enter .train) else s) := by
  split
  next hdown =>
    have hnot : (s.port p).training ≠ .up := by rw [hdown]; decide
    refine setPort_moves (fun h => h.enter (by decide) hnot) ?_ fun _ hpkt => hpkt
    rw [isUp_of_not_up hnot]
    rfl
  next => exact .refl

/-- The count of an alignment loss changes. -/
theorem setLossTicks_moves (n : Option Nat) : Moves s (s.setPort p { s.port p with lossTicks := n }) :=
  setPort_moves (fun h => h.of_bookkeeping rfl) rfl fun _ hpkt => hpkt

theorem interrupted_moves : Moves s (s.setPort p (s.port p).interrupted) := by
  obtain ⟨htraining, htx⟩ := interrupted_training (s.port p)
  exact setPort_moves (fun h => h.interrupted) (isUp_congr htraining) fun _ hpkt => htx ▸ hpkt

/-- A word or a packet changes a port that is UP, and interrupts the training of another. -/
theorem received_moves {x : PortState} (hlaw : (s.port p).training = .up → (s.port p).Law → x.Law)
    (hsame : x.training = (s.port p).training ∧ x.tx = (s.port p).tx) :
    Moves s (s.setPort p (if (s.port p).isUp then x else (s.port p).interrupted)) := by
  split
  next hup =>
    exact setPort_moves (hlaw ((isUp_iff _).1 hup)) (isUp_congr hsame.1) fun _ hpkt => hsame.2 ▸ hpkt
  next => exact interrupted_moves p s

theorem sendCredit_moves :
    Moves s (if (s.port p).isUp then s.setPort p (s.port p).returnCredits else s) := by
  split
  next hup =>
    obtain ⟨htraining, htx⟩ := returnCredits_training (s.port p)
    exact setPort_moves (fun h => h.returnCredits ((isUp_iff _).1 hup)) (isUp_congr htraining)
      fun _ hpkt => htx ▸ hpkt
  next => exact .refl

theorem sendHead_moves (hup : (s.port p).training = .up) : Moves s (s.setPort p (s.port p).sendHead) := by
  obtain ⟨htraining, htx⟩ := sendHead_training (s.port p)
  exact setPort_moves (fun h => h.sendHead hup) (isUp_congr htraining)
    fun _ hpkt => List.mem_of_mem_tail (htx ▸ hpkt)

end

/-- The command of a port's send (R160, R164). -/
theorem sendPacket_moves (p : Port) (s : State) :
    Moves s (if (s.port p).canSend then
      match p with
      | .c => s.setCPort s.cPort.sendHead
      | .m => slotTrigger (s.setMPort s.mPort.sendHead)
    else s) := by
  split
  next hsend =>
    have hup : (s.port p).training = .up := by
      unfold PortState.canSend at hsend
      rw [Bool.and_eq_true, Bool.and_eq_true] at hsend
      exact (isUp_iff _).1 hsend.1.1
    cases p with
    | c => exact sendHead_moves .c s hup
    | m => exact (sendHead_moves .m s hup).trans (slotTrigger_moves _)
  next => exact .refl

theorem exec_steps {c : Instr} {s t : State} (h : exec c s = .next t) : Steps s t := by
  cases c with
  | powerOnReset straps =>
    obtain rfl := Host.Outcome.next.inj h
    exact restart_steps s straps false
  | rstNAsserted => cases h; exact restart_steps s s.straps true
  | tick =>
    rw [exec_tick] at h
    exact whenRunning_moves h ((settleDue_moves s).trans (advanceTime_moves _))
  | meterRollover m => exact whenRunning_moves h (rollOverIfDue_moves m s)
  | expiryDue => exact whenRunning_moves h (markExpired_moves s)
  | slotOverdue i => exact whenRunning_moves h (slotBecomesOverdue_moves i s)
  | wordAlignmentAcquired p => exact whenRunning_moves h (alignmentAcquired_moves p s)
  | alignmentLost p =>
    exact whenRunning_moves h (by
      split
      · exact setLossTicks_moves p s _
      · exact .refl)
  | alignmentRegained p =>
    exact whenRunning_moves h (by
      split
      · exact setLossTicks_moves p s _
      · exact .refl)
  | alignmentLossExpiry p => exact whenRunning_moves h (expireLoss_moves p s)
  | trainWord p w => exact whenRunning_moves h (receiveTrainWord_moves p w s)
  | creditWord p count =>
    exact whenRunning_moves (show execCreditWord p count s = .next t from h)
      (received_moves p s (fun hup hlaw => hlaw.addCredits hup count) (addCredits_training _ count))
  | idleWord p => exact whenRunning_moves (show execIdleWord p s = .next t from h) (interrupted_moves p s)
  | sendCredit p => exact whenRunning_moves h (sendCredit_moves p s)
  | sendPacket p => exact whenRunning_moves h (sendPacket_moves p s)
  | packetReceived p right pkt =>
    exact whenRunning_moves (show execPacketReceived p right pkt s = .next t from h)
      (received_moves p s (fun hup hlaw => hlaw.receive hup p s.straps.bid right pkt) (receive_training ..))
  | read => exact whenRunning_moves h (takeRequest_moves .read .read s)
  | write => exact whenRunning_moves h (takeRequest_moves .write .write s)
  | post => exact whenRunning_moves h (takeRequest_moves .post .post s)
  | answer => exact whenRunning_moves h (takeAnswer_moves s)
  | retireComplete => exact whenRunning_moves h (completeRetire_moves s)
  | setModeComplete => exact whenRunning_moves h (completeSetMode_moves s)
  | deadlineExpiry => exact whenRunning_moves h (takeDeadlineExpiry_moves s)
  | holdListPlace => exact whenRunning_moves h (placeHoldHead_moves s)
  | parkExpiry =>
    exact whenRunning_moves h (takeParkClaim_moves (fun _ _ hfree hmem => itemLeaves_moves hfree hmem _ _) false s)
  | leavingAnswer => exact whenRunning_moves h (takeParkClaim_moves leaveItem_moves true s)
  | abortListPlace => exact whenRunning_moves h (placeAbortHead_moves s)
  | mreplyPlace => exact whenRunning_moves h (placeReplyHead_moves s)
  | alert => exact whenRunning_moves h (placeAlert_moves s)
  | identify => exact exec_command_steps .identify h
  | getSetting => exact exec_command_steps .getSetting h
  | setSetting => exact exec_command_steps .setSetting h
  | setMeterSetting => exact exec_command_steps .setMeterSetting h
  | getDomain => exact exec_command_steps .getDomain h
  | setDomain => exact exec_command_steps .setDomain h
  | loadWindow => exact exec_command_steps .loadWindow h
  | widenWindow => exact exec_command_steps .widenWindow h
  | readWindow => exact exec_command_steps .readWindow h
  | retireEntry => exact exec_command_steps .retireEntry h
  | retireRange => exact exec_command_steps .retireRange h
  | retireDomain => exact exec_command_steps .retireDomain h
  | retireAll => exact exec_command_steps .retireAll h
  | setMode => exact exec_command_steps .setMode h
  | meterRun => exact exec_command_steps .meterRun h
  | meterStop => exact exec_command_steps .meterStop h
  | meterRestart => exact exec_command_steps .meterRestart h
  | readFault => exact exec_command_steps .readFault h
  | releaseFault => exact exec_command_steps .releaseFault h
  | clearOverflow => exact exec_command_steps .clearOverflow h
  | faultSummary => exact exec_command_steps .faultSummary h
  | portStatus => exact exec_command_steps .portStatus h
  | resetWarm => exact exec_command_steps .resetWarm h
  | badRequest => exact exec_command_steps .badRequest h

/-- Every step is a beginning followed by moves. -/
theorem step_steps {s t : State} (h : step s = .next t) : Steps s t := by
  unfold step at h
  split at h
  next => exact whenRunning_moves h (takeDueTrigger_moves s)
  next c rest _ =>
    have hpending : Starts s { s with pending := rest } :=
      .single (.quiet (.items s rest s.parkLimit s.answerTimeout s.nextProducer s.slotTriggersDue s.tick) rfl)
    exact hpending.steps (exec_steps h)

/-! ## A law kept by every change is kept by every step -/

theorem reflTransGen_keeps {r : State → State → Prop} {P : State → Prop} (hr : ∀ s t, r s t → P s → P t) {s t : State}
    (h : Relation.ReflTransGen r s t) (hs : P s) : P t := by
  induction h with
  | refl => exact hs
  | tail _ hlast ih => exact hr _ _ hlast ih

/-- What every elementary change keeps, every step keeps. -/
theorem step_keeps {P : State → Prop} (hmove : ∀ s t, Move s t → P s → P t) (hstart : ∀ s t, Start s t → P s → P t)
    {s t : State} (hs : P s) (h : step s = .next t) : P t := by
  obtain ⟨u, hstarts, hmoves⟩ := step_steps h
  exact reflTransGen_keeps hmove hmoves (reflTransGen_keeps hstart hstarts hs)

end Sys2Proof.Machine
end


section
/-! The laws of the windows, the ports, the meters, the fault log, the alert and the park queue are kept by every
step: each elementary change keeps them. -/

namespace Sys2Proof.Machine

/-! ## What a forwarding does -/

/-- What a forwarding of a request that has passed does to the state (R46, R53): the M send queue gains the packet, a
bound meter is charged, the window counts it, and a slot is taken where one is needed. -/
structure Forwarded (s : State) (r : Request) (w : Option (Fin 64)) (t : State) : Prop where
  port : ∃ tag, t.mPort = s.mPort.enqueue (forwardPacket (slotKindFor (w.map fun i => s.windows[i]) r.kind) r tag
    ((w.map fun i => (s.windows[i]).translate r.address).getD r.address))
  meters : t.meters = (w.map fun i => s.chargedMeters s.windows[i] r.length).getD s.meters
  window : ∀ j : Fin 64, t.windows[j] = if w = some j then
      { s.windows[j] with
        inFlight := (s.windows[j]).inFlight + (slotKindFor (w.map fun i => s.windows[i]) r.kind).isSome.toNat
        admissions := (s.windows[j]).admissions + 1 }
    else s.windows[j]
  slots : (slotKindFor (w.map fun i => s.windows[i]) r.kind = none ∧ t.slots = s.slots ∧ t.freeList = s.freeList) ∨
    ∃ k f deadline, slotKindFor (w.map fun i => s.windows[i]) r.kind = some k ∧ s.freeList = f :: t.freeList ∧
      t.slots = setAt s.slots f (allocatedSlot s.slots[f] k w r deadline)

theorem setAt_window {v : Vector WindowEntry 64} {i : Fin 64} {f : WindowEntry → WindowEntry} (j : Fin 64) :
    (setAt v i (f v[i]))[j] = if some i = some j then f v[j] else v[j] := by
  rw [setAt_get]
  by_cases h : j = i
  · rw [if_pos h, if_pos (congrArg some h.symm), h]
  · rw [if_neg h, if_neg fun hi => h (Option.some.inj hi).symm]

theorem forwardRequest_forwarded {s : State} {r : Request} {w : Option (Fin 64)} (h : s.Forwards r w) :
    Forwarded s r w (forwardRequest w r s) := by
  have hslot := h.slot
  cases w with
  | none =>
    cases hk : slotKindFor none r.kind with
    | none =>
      rw [forwardRequest_open_post hk]
      exact ⟨⟨0, by rw [Option.map_none, hk]; rfl⟩, rfl, fun j => rfl, .inl ⟨hk, rfl, rfl⟩⟩
    | some k =>
      obtain ⟨f, rest, hfree⟩ := List.exists_cons_of_ne_nil (hslot (by rw [Option.map_none, hk]; simp))
      rw [forwardRequest_open_slot hk hfree]
      exact ⟨⟨_, by rw [Option.map_none, hk]; rfl⟩, rfl, fun j => rfl, .inr ⟨k, f, _, hk, hfree, rfl⟩⟩
  | some i =>
    cases hk : slotKindFor (some s.windows[i]) r.kind with
    | none =>
      rw [forwardRequest_window_post hk]
      refine ⟨⟨0, by rw [Option.map_some, hk]; rfl⟩, rfl, fun j => ?_, .inl ⟨hk, rfl, rfl⟩⟩
      rw [Option.map_some, hk]
      exact setAt_window (f := fun e : WindowEntry => { e with admissions := e.admissions + 1 }) j
    | some k =>
      obtain ⟨f, rest, hfree⟩ := List.exists_cons_of_ne_nil (hslot (by rw [Option.map_some, hk]; simp))
      rw [forwardRequest_window_slot hk hfree]
      refine ⟨⟨_, by rw [Option.map_some, hk]; rfl⟩, rfl, fun j => ?_, .inr ⟨k, f, _, hk, hfree, rfl⟩⟩
      rw [Option.map_some, hk]
      exact setAt_window
        (f := fun e : WindowEntry => { e with inFlight := e.inFlight + 1, admissions := e.admissions + 1 }) j

/-! ## What no move changes -/

/-- What a move makes of a window entry: it admits what it admitted, with the rights it had at least, and an entry that
is not ACTIVE does not become so. -/
structure WindowEntry.Moved (e f : WindowEntry) : Prop where
  domain : f.domain = e.domain
  cardBase : f.cardBase = e.cardBase
  sizeExp : f.sizeExp = e.sizeExp
  memBase : f.memBase = e.memBase
  active : f.state = .active ↔ e.state = .active
  free : e.state = .free → f.state = .free
  rights : f.rights.covers e.rights = true

theorem Rights.covers_refl (r : Rights) : r.covers r = true := (Rights.covers_iff r r).2 ⟨id, id, id⟩

theorem Rights.covers_trans {a b c : Rights} (hab : b.covers a = true) (hbc : c.covers b = true) :
    c.covers a = true := by
  rw [Rights.covers_iff] at *
  exact ⟨hbc.1 ∘ hab.1, hbc.2.1 ∘ hab.2.1, hbc.2.2 ∘ hab.2.2⟩

theorem WindowEntry.Moved.refl (e : WindowEntry) : e.Moved e :=
  ⟨rfl, rfl, rfl, rfl, Iff.rfl, id, Rights.covers_refl _⟩

theorem WindowEntry.Moved.trans {e f g : WindowEntry} (hef : e.Moved f) (hfg : f.Moved g) : e.Moved g :=
  ⟨hfg.domain.trans hef.domain, hfg.cardBase.trans hef.cardBase, hfg.sizeExp.trans hef.sizeExp,
    hfg.memBase.trans hef.memBase, hfg.active.trans hef.active, hfg.free ∘ hef.free,
    Rights.covers_trans hef.rights hfg.rights⟩

/-- A move that leaves the fields of the entry but its counts, and of its state at most frees a DRAINING entry. -/
theorem WindowEntry.Moved.of_state {e f : WindowEntry}
    (h : f = { e with state := f.state, inFlight := f.inFlight, admissions := f.admissions })
    (hstate : f.state = e.state ∨ e.state = .draining ∧ f.state = .free) : e.Moved f := by
  rw [h]
  rcases hstate with hsame | ⟨hdraining, hfree⟩
  · exact ⟨rfl, rfl, rfl, rfl, by rw [hsame], fun hf => hsame.trans hf, Rights.covers_refl _⟩
  · refine ⟨rfl, rfl, rfl, rfl, ?_, fun _ => hfree, Rights.covers_refl _⟩
    rw [hfree, hdraining]
    decide

theorem WindowEntry.moved_lowered (e : WindowEntry) : e.Moved e.lowered := by
  refine .of_state rfl ?_
  unfold WindowEntry.lowered
  dsimp only
  split
  next hend => exact .inr ⟨hend.1, rfl⟩
  next => exact .inl rfl

theorem WindowEntry.moved_warmReset (e : WindowEntry) : e.Moved e.warmReset := by
  refine .of_state rfl ?_
  unfold WindowEntry.warmReset
  dsimp only
  split
  next hdraining => exact .inr ⟨hdraining, rfl⟩
  next => exact .inl rfl

/-- The states have the same mode and the same domain table, and the windows of the second are those of the first, as
moves change them. -/
structure State.Settled (s t : State) : Prop where
  mode : t.mode = s.mode
  domains : t.domains = s.domains
  windows : ∀ j : Fin 64, (s.windows[j]).Moved t.windows[j]

theorem State.Settled.of_same {s t : State} (hmode : t.mode = s.mode) (hdomains : t.domains = s.domains)
    (hwindows : t.windows = s.windows) : s.Settled t :=
  ⟨hmode, hdomains, fun j => by rw [hwindows]; exact .refl _⟩

theorem State.Settled.of_kept {s t : State} (hkept : t.kept = s.kept)
    (hwindows : ∀ j : Fin 64, (s.windows[j]).Moved t.windows[j]) : s.Settled t :=
  ⟨mode_of_kept hkept, domains_of_kept hkept, hwindows⟩

theorem State.Settled.trans {s t u : State} (hst : s.Settled t) (htu : t.Settled u) : s.Settled u :=
  ⟨htu.mode.trans hst.mode, htu.domains.trans hst.domains, fun j => (hst.windows j).trans (htu.windows j)⟩

theorem runChange_settled {s t : State} (h : RunChange s t) : s.Settled t := by
  cases h with
  | record f =>
    exact .of_kept (recordFault_kept ..) fun j => by rw [recordFault_windows]; exact .refl _
  | place pkt => exact .of_kept (placeC_kept ..) fun j => by rw [placeC_windows]; exact .refl _
  | forward w r _ hpass =>
    refine .of_kept (forwardRequest_kept ..) fun j => ?_
    rw [(forwardRequest_forwarded hpass).window j]
    split
    · exact .of_state rfl (.inl rfl)
    · exact .refl _
  | park => exact .of_same rfl rfl rfl

theorem runs_settled {s t : State} (h : Runs s t) : s.Settled t :=
  reflTransGen_keeps (P := s.Settled) (fun _ _ hchange hsettled => hsettled.trans (runChange_settled hchange)) h
    (.of_same rfl rfl rfl)

/-- No move changes the mode, the domain table, or what the ACTIVE entries match but for rights they gain. -/
theorem move_settled {s t : State} (h : Move s t) : s.Settled t := by
  cases h with
  | runs hruns => exact runs_settled hruns
  | free i =>
    refine .of_kept (freeSlot_kept ..) fun j => ?_
    rw [freeSlot_window]
    split
    · exact WindowEntry.moved_lowered _
    · exact .refl _
  | tablesReset =>
    refine ⟨rfl, rfl, fun j => ?_⟩
    show (s.windows[j]).Moved (mapTable WindowEntry.warmReset s.windows)[j]
    rw [mapTable_get]
    exact WindowEntry.moved_warmReset _
  | widen i r hcovers =>
    refine ⟨rfl, rfl, fun j => ?_⟩
    show (s.windows[j]).Moved (setAt s.windows i { s.windows[i] with rights := r })[j]
    rw [setAt_get]
    split
    next hj =>
      rw [hj]
      exact ⟨rfl, rfl, rfl, rfl, Iff.rfl, id, hcovers⟩
    next => exact .refl _
  | cLost after =>
    rw [cLost_eq]
    exact .of_same rfl rfl rfl
  | _ => exact .of_same rfl rfl rfl

/-! ## The windows (R5, R1) -/

theorem admits_of_moved {e f : WindowEntry} (h : e.Moved f) {d : Fin 16} {a : Addr} (hadmits : f.admits d a = true) :
    e.admits d a = true := by
  rw [admits_iff] at *
  obtain ⟨hactive, hserves, hlow, hhigh⟩ := hadmits
  rw [h.domain] at hserves
  rw [h.cardBase] at hlow hhigh
  rw [h.sizeExp] at hhigh
  exact ⟨h.active.1 hactive, hserves, hlow, hhigh⟩

theorem valuesOk_of_moved {e f : WindowEntry} (h : e.Moved f) : f.valuesOk = e.valuesOk := by
  unfold WindowEntry.valuesOk
  rw [h.cardBase, h.sizeExp, h.memBase]

theorem disjointLaw_of_settled {s t : State} (h : s.Settled t) (hlaw : s.DisjointLaw) : t.DisjointLaw :=
  fun i j d a hi hj => hlaw i j d a (admits_of_moved (h.windows i) hi) (admits_of_moved (h.windows j) hj)

theorem rangeLaw_of_settled {s t : State} (h : s.Settled t) (hlaw : s.RangeLaw) : t.RangeLaw := fun i hi =>
  (valuesOk_of_moved (h.windows i)).trans (hlaw i fun hfree => hi ((h.windows i).free hfree))

/-- A loaded entry that conflicts with no ACTIVE entry shares no admitted address with another (R13). -/
theorem not_admits_both {e f : WindowEntry} (hnone : e.conflicts f = false) {d : Fin 16} {a : Addr}
    (he : e.admits d a = true) (hf : f.admits d a = true) : False := by
  have hmatches := (admits_iff f d a).1 hf
  obtain ⟨hover, hshares⟩ := conflicts_of_admits ((admits_iff e d a).1 he) hmatches
  rw [(conflicts_iff e f).2 ⟨hmatches.1, hover, hshares⟩] at hnone
  cases hnone

theorem load_window (s : State) (i : Fin 64) (e : WindowEntry) (j : Fin 64) :
    (s.setWindow i e).windows[j] = if j = i then e else s.windows[j] := setAt_get ..

theorem load_disjointLaw {s : State} {i : Fin 64} {e : WindowEntry}
    (hnone : ∀ j : Fin 64, e.conflicts s.windows[j] = false) (h : s.DisjointLaw) : (s.setWindow i e).DisjointLaw := by
  intro j k d a hj hk
  rw [load_window] at hj hk
  by_cases hji : j = i
  · by_cases hki : k = i
    · rw [hji, hki]
    · rw [if_pos hji] at hj
      rw [if_neg hki] at hk
      exact (not_admits_both (hnone k) hj hk).elim
  · by_cases hki : k = i
    · rw [if_neg hji] at hj
      rw [if_pos hki] at hk
      exact (not_admits_both (hnone j) hk hj).elim
    · rw [if_neg hji] at hj
      rw [if_neg hki] at hk
      exact h j k d a hj hk

theorem retire_window {s : State} {l : List (Fin 64)} (hnodup : l.Nodup) (op : LongOp) (j : Fin 64) :
    ((s.setWindows (l.foldl retireEntryAt s).windows).setLongOp op).windows[j] =
      if j ∈ l then (s.windows[j]).retired else s.windows[j] := (foldl_retireEntryAt hnodup s).2 j

theorem admits_of_retired {e : WindowEntry} {d : Fin 16} {a : Addr} : e.retired.admits d a = false := by
  by_contra h
  have hstate := ((admits_iff _ d a).1 (Bool.eq_true_of_not_eq_false h)).1
  unfold WindowEntry.retired at hstate
  dsimp only at hstate
  split at hstate <;> cases hstate

/-- Settles O55: a move lets no entry match more, a load is checked for conflicts, and a retired entry matches
nothing. -/
theorem everyStepKeepsTheWindowsDisjointAndInRange : Obligations.EveryStepKeepsTheWindowsDisjointAndInRange := by
  intro s t hdisjoint hrange hstep
  refine step_keeps (P := fun u => u.DisjointLaw ∧ u.RangeLaw) (fun u v hmove h => ?_) (fun u v hstart h => ?_)
    ⟨hdisjoint, hrange⟩ hstep
  · have hsettled := move_settled hmove
    exact ⟨disjointLaw_of_settled hsettled h.1, rangeLaw_of_settled hsettled h.2⟩
  · cases hstart with
    | quiet hmove =>
      have hsettled := move_settled hmove
      exact ⟨disjointLaw_of_settled hsettled h.1, rangeLaw_of_settled hsettled h.2⟩
    | restart straps => exact ⟨powerOn_disjointLaw straps, powerOn_rangeLaw straps⟩
    | domains => exact h
    | mode => exact h
    | load i e _ hactive _ hvalues hnone =>
      refine ⟨load_disjointLaw hnone h.1, fun j hj => ?_⟩
      rw [load_window] at hj ⊢
      split
      next => exact hvalues
      next hji =>
        rw [if_neg hji] at hj
        exact h.2 j hj
    | retire l op _ hnodup hactive =>
      have hadmits (j : Fin 64) {d : Fin 16} {a : Addr} (hj : (((u.setWindows (l.foldl retireEntryAt u).windows).setLongOp
          op).windows[j]).admits d a = true) : (u.windows[j]).admits d a = true := by
        rw [retire_window hnodup] at hj
        split at hj
        · rw [admits_of_retired] at hj
          cases hj
        · exact hj
      refine ⟨fun i j d a hi hj => h.1 i j d a (hadmits i hi) (hadmits j hj), fun j hj => ?_⟩
      rw [retire_window hnodup] at hj ⊢
      split
      next hjl => exact h.2 j (by rw [hactive j hjl]; decide)
      next hjl =>
        rw [if_neg hjl] at hj
        exact h.2 j hj

end Sys2Proof.Machine
end


section
/-! The laws of the ports, the meters, the fault log, the alert and the park queue are kept by every step, and what
enters the M send queue lies within the windows (R55). -/

namespace Sys2Proof.Machine

/-! ## The park queue (R71, R70, R42) -/

theorem cLost_parkLaw (s : State) (after : Training) : (s.cLost after).ParkLaw := by
  rw [cLost_eq]
  exact parkLaw_congr (parkLaw_empty s) rfl rfl

theorem freeSlot_park (i : Fin 32) (s : State) : (freeSlot i s).park = s.park := by
  rw [freeSlot_frame]
  rfl

theorem move_parkLaw {s t : State} (h : Move s t) (hlaw : s.ParkLaw) : t.ParkLaw := by
  cases h with
  | runs _ hpark => exact hpark hlaw
  | cLost after => exact cLost_parkLaw s after
  | free i => exact parkLaw_congr hlaw (freeSlot_park i s) (mode_of_kept (freeSlot_kept i s))
  | _ => exact parkLaw_congr hlaw rfl rfl

/-- Settles O59: runs keep the law together, and a change of mode empties the queue. -/
theorem everyStepKeepsTheParkLaw : Obligations.EveryStepKeepsTheParkLaw := by
  intro s t hlaw hstep
  refine step_keeps (fun u v hmove => move_parkLaw hmove) (fun u v hstart h => ?_) hlaw hstep
  cases hstart with
  | quiet hmove => exact move_parkLaw hmove h
  | restart straps => exact parkLaw_congr (powerOn_parkLaw straps) rfl rfl
  | mode m => exact parkLaw_empty _
  | _ => exact parkLaw_congr h rfl rfl

/-! ## The fault log and the alert (R128, R126, R139) -/

theorem recordFault_log (f : FaultInfo) (s : State) : (recordFault f s).log = (s.log.record f s.tick).1 := by
  rw [recordFault_eq]
  rfl

theorem forwardRequest_log (w : Option (Fin 64)) (r : Request) (s : State) :
    (forwardRequest w r s).log = s.log ∧ (forwardRequest w r s).alert = s.alert ∧
      (forwardRequest w r s).cPort = s.cPort := by
  rw [forwardRequest_frame]
  exact ⟨rfl, rfl, rfl⟩

theorem runChange_logLaw {s t : State} (h : RunChange s t) (hlaw : s.LogLaw) : t.LogLaw := by
  cases h with
  | record f => exact logLaw_congr (logLaw_record hlaw f s.tick) (recordFault_log f s)
  | place pkt => exact logLaw_congr hlaw (placeC_log pkt s)
  | forward w r => exact logLaw_congr hlaw (forwardRequest_log w r s).1
  | park => exact logLaw_congr hlaw rfl

theorem freeSlot_log (i : Fin 32) (s : State) : (freeSlot i s).log = s.log ∧ (freeSlot i s).alert = s.alert ∧
    (freeSlot i s).cPort = s.cPort := by
  rw [freeSlot_frame]
  exact ⟨rfl, rfl, rfl⟩

theorem move_logLaw {s t : State} (h : Move s t) (hlaw : s.LogLaw) : t.LogLaw := by
  cases h with
  | runs hruns => exact reflTransGen_keeps (r := RunChange) (fun _ _ => runChange_logLaw) hruns hlaw
  | cLost after => rw [cLost_eq]; exact logLaw_congr hlaw rfl
  | free i => exact logLaw_congr hlaw (freeSlot_log i s).1
  | log l hl => exact hl hlaw
  | _ => exact logLaw_congr hlaw rfl

theorem recordFault_alert (f : FaultInfo) (s : State) : (recordFault f s).alert =
    if (s.log.record f s.tick).2 then s.alert.condition s.cUp else s.alert := by
  rw [recordFault_eq]
  rfl

theorem runChange_alertLaw {s t : State} (h : RunChange s t) (hlaw : s.AlertLaw) : t.AlertLaw := by
  cases h with
  | record f =>
    have hup : (recordFault f s).cUp = s.cUp := by rw [State.cUp, recordFault_cPort]; rfl
    rw [alertLaw_iff, hup, recordFault_alert]
    split
    · exact ((alertLaw_iff s).1 hlaw).condition
    · exact (alertLaw_iff s).1 hlaw
  | place pkt => exact alertLaw_congr hlaw (placeC_alert pkt s) (placeC_cUp pkt s)
  | forward w r =>
    obtain ⟨-, halert, hport⟩ := forwardRequest_log w r s
    exact alertLaw_congr hlaw halert (congrArg PortState.isUp hport)
  | park => exact alertLaw_congr hlaw rfl rfl

theorem cLost_alertLaw (s : State) {after : Training} (hafter : after ≠ .up) : (s.cLost after).AlertLaw := by
  have hup : (s.cLost after).cUp = false := by
    rw [cLost_eq]
    exact isUp_of_not_up hafter
  have halert : (s.cLost after).alert = s.alert.withdraw := rfl
  rw [alertLaw_iff, hup, halert]
  exact AlertCtl.fits_withdraw (.inr rfl)

/-- A port in AGREE is not UP, so that no alert is due before it arrives (R139, R140). -/
theorem cArrives_alertLaw {s : State} {o : LinkOffer} (htraining : s.cPort.training = .agree) (hlaw : s.AlertLaw) :
    ((s.setCPort (s.cPort.enterUp .c o)).setAlert (s.alert.release true)).AlertLaw := by
  have hdue : s.alert.due = false := by
    by_contra hd
    have hup := (hlaw.due (Bool.eq_true_of_not_eq_false hd)).2
    rw [State.cUp, isUp_of_not_up (by rw [htraining]; decide)] at hup
    cases hup
  exact (alertLaw_iff _).2 (AlertCtl.fits_release hdue true)

theorem move_alertLaw {s t : State} (h : Move s t) (hlaw : s.AlertLaw) : t.AlertLaw := by
  cases h with
  | runs hruns => exact reflTransGen_keeps (r := RunChange) (fun _ _ => runChange_alertLaw) hruns hlaw
  | cPort x _ hup => exact alertLaw_congr hlaw rfl hup
  | cLost after hafter => exact cLost_alertLaw s hafter
  | cArrives o htraining => exact cArrives_alertLaw htraining hlaw
  | free i =>
    obtain ⟨-, halert, hport⟩ := freeSlot_log i s
    exact alertLaw_congr hlaw halert (congrArg PortState.isUp hport)
  | alert a ha => exact ha hlaw
  | _ => exact alertLaw_congr hlaw rfl rfl

/-- Settles O58: a recording by the cases of R128, and the alert's events by R139 and R140. -/
theorem everyStepKeepsTheLogAndAlertLaws : Obligations.EveryStepKeepsTheLogAndAlertLaws := by
  refine ⟨?_, ?_⟩
  · intro s t hlaw hstep
    refine step_keeps (fun u v hmove => move_logLaw hmove) (fun u v hstart h => ?_) hlaw hstep
    cases hstart with
    | quiet hmove => exact move_logLaw hmove h
    | restart straps => exact logLaw_congr (powerOn_logLaw straps) rfl
    | _ => exact logLaw_congr h rfl
  · intro s t hlaw hstep
    refine step_keeps (fun u v hmove => move_alertLaw hmove) (fun u v hstart h => ?_) hlaw hstep
    cases hstart with
    | quiet hmove => exact move_alertLaw hmove h
    | restart straps => exact alertLaw_congr (powerOn_alertLaw straps) rfl rfl
    | _ => exact alertLaw_congr h rfl rfl

/-! ## The meters (R111, R113) -/

theorem metersLaw_congr {s t : State} (h : s.MetersLaw) (hmeters : t.meters = s.meters) : t.MetersLaw := fun m => by
  rw [hmeters]
  exact h m

/-- A forwarding charges only a meter whose budget holds the cost (R51, R53). -/
theorem forwardRequest_metersLaw {s : State} {r : Request} {w : Option (Fin 64)} (hpass : s.Forwards r w)
    (h : s.MetersLaw) : (forwardRequest w r s).MetersLaw := by
  have hmeters := (forwardRequest_forwarded hpass).meters
  cases w with
  | none => exact metersLaw_congr h hmeters
  | some i =>
    intro m
    rw [hmeters]
    show ((s.chargedMeters s.windows[i] r.length)[m]).Law
    unfold State.chargedMeters
    split
    next => exact h m
    next b hb =>
      split
      next hrunning =>
        rw [setAt_get]
        split
        · exact (h b).charged (cost_eq s.meters[b] r.length ▸ (hpass.guardPath i rfl).budget b hb hrunning)
        · exact h m
      next => exact h m

theorem runChange_metersLaw {s t : State} (h : RunChange s t) (hlaw : s.MetersLaw) : t.MetersLaw := by
  cases h with
  | record f => exact metersLaw_congr hlaw (recordFault_meters f s)
  | place pkt => exact metersLaw_congr hlaw (placeC_meters pkt s)
  | forward w r _ hpass => exact forwardRequest_metersLaw hpass hlaw
  | park => exact hlaw

theorem freeSlot_meters (i : Fin 32) (s : State) : (freeSlot i s).meters = s.meters := by
  rw [freeSlot_frame]
  rfl

theorem move_metersLaw {s t : State} (h : Move s t) (hlaw : s.MetersLaw) : t.MetersLaw := by
  cases h with
  | runs hruns => exact reflTransGen_keeps (r := RunChange) (fun _ _ => runChange_metersLaw) hruns hlaw
  | meters v hv => exact fun m => hv m (hlaw m)
  | cLost after => rw [cLost_eq]; exact hlaw
  | free i => exact metersLaw_congr hlaw (freeSlot_meters i s)
  | _ => exact hlaw

/-- Settles O57: a charge within the budget, and the operations on a meter's record. -/
theorem everyStepKeepsTheMetersLaw : Obligations.EveryStepKeepsTheMetersLaw := by
  intro s t hlaw hstep
  refine step_keeps (fun u v hmove => move_metersLaw hmove) (fun u v hstart h => ?_) hlaw hstep
  cases hstart with
  | quiet hmove => exact move_metersLaw hmove h
  | restart straps => exact powerOn_metersLaw straps
  | _ => exact h

/-! ## The ports (R157, R159, R87, R106, R147) -/

/-- The law of the ports looks at the ports and at the lists that wait for the C-port. -/
theorem portsLaw_congr {s t : State} (h : s.PortsLaw) (hc : t.cPort = s.cPort) (hm : t.mPort = s.mPort)
    (habort : t.abortList = s.abortList) (hhold : t.holdList = s.holdList) (hreplies : t.replies = s.replies) :
    t.PortsLaw where
  c := hc ▸ h.c
  m := hm ▸ h.m
  waiting hdown := by
    rw [habort, hhold, hreplies]
    exact h.waiting (by rw [State.cUp, ← hc]; exact hdown)

theorem enqueue_law {x : PortState} (h : x.Law) (hup : x.training = .up) (hroom : x.tx.length < capacity)
    (pkt : Packet) : (x.enqueue pkt).Law :=
  h.of_tx hup (by rw [List.length_append, List.length_singleton]; exact hroom)

theorem placeC_portsLaw {s : State} (hfree : s.cFree = true) (h : s.PortsLaw) (pkt : Packet) :
    (placeC pkt s).PortsLaw := by
  cases hup : s.cUp with
  | false => rw [placeC_of_not_cUp hup]; exact h
  | true =>
    have htraining : s.cPort.training = .up := (isUp_iff _).1 hup
    have hroom : s.cPort.tx.length < capacity := ((cFree_iff s).1 hfree).resolve_left (not_not.2 htraining)
    have hstill : (placeC pkt s).cUp = true := (placeC_cUp pkt s).trans hup
    refine ⟨?_, ?_, fun hdown => ?_⟩
    · rw [placeC_of_up htraining]
      exact enqueue_law h.c htraining hroom pkt
    · rw [placeC_mPort]
      exact h.m
    · rw [hstill] at hdown
      cases hdown

theorem forwardRequest_lists (w : Option (Fin 64)) (r : Request) (s : State) :
    (forwardRequest w r s).abortList = s.abortList ∧ (forwardRequest w r s).holdList = s.holdList ∧
      (forwardRequest w r s).replies = s.replies := by
  rw [forwardRequest_frame]
  exact ⟨rfl, rfl, rfl⟩

theorem runChange_portsLaw {s t : State} (h : RunChange s t) (hlaw : s.PortsLaw) : t.PortsLaw := by
  cases h with
  | record f =>
    exact portsLaw_congr hlaw (recordFault_cPort f s) (recordFault_mPort f s) (recordFault_abortList f s)
      (recordFault_holdList f s) (recordFault_replies f s)
  | place pkt _ hfree => exact placeC_portsLaw hfree hlaw pkt
  | forward w r _ hpass =>
    obtain ⟨tag, hport⟩ := (forwardRequest_forwarded hpass).port
    obtain ⟨habort, hhold, hreplies⟩ := forwardRequest_lists w r s
    have hc := (forwardRequest_log w r s).2.2
    refine ⟨hc ▸ hlaw.c, ?_, fun hdown => ?_⟩
    · rw [hport]
      exact enqueue_law hlaw.m hpass.up hpass.place _
    · rw [habort, hhold, hreplies]
      exact hlaw.waiting (by rw [State.cUp, ← hc]; exact hdown)
  | park => exact portsLaw_congr hlaw rfl rfl rfl rfl rfl

theorem cLost_portsLaw {s : State} {after : Training} (hafter : after ≠ .up) (h : s.PortsLaw) :
    (s.cLost after).PortsLaw := by
  rw [cLost_eq]
  exact ⟨h.c.leaveUp hafter, h.m, fun _ => ⟨rfl, rfl, rfl⟩⟩

/-- A reply that the freeing of a slot lists is listed while the C-port is UP only (R147). -/
theorem doneReply_of_down {s : State} (h : s.cUp = false) : s.doneReply = [] := by
  unfold State.doneReply
  rw [h]
  cases s.longOp <;> rfl

theorem freeSlot_portsLaw {s : State} (i : Fin 32) (h : s.PortsLaw) : (freeSlot i s).PortsLaw := by
  have hc := (freeSlot_log i s).2.2
  have hrest : (freeSlot i s).mPort = s.mPort ∧ (freeSlot i s).abortList = s.abortList ∧
      (freeSlot i s).holdList = s.holdList := by
    rw [freeSlot_frame]
    exact ⟨rfl, rfl, rfl⟩
  obtain ⟨hm, habort, hhold⟩ := hrest
  refine ⟨hc ▸ h.c, hm ▸ h.m, fun hdown => ?_⟩
  have hs : s.cUp = false := by rw [State.cUp, ← hc]; exact hdown
  obtain ⟨haborts, hholds, hreplies⟩ := h.waiting hs
  refine ⟨habort.trans haborts, hhold.trans hholds, ?_⟩
  rcases freeSlot_longOp i s with ⟨-, hlisted, -⟩ | ⟨-, hlisted, -⟩
  · rw [hlisted, hreplies]
  · rw [hlisted, hreplies, doneReply_of_down hs]
    rfl

theorem move_portsLaw {s t : State} (h : Move s t) (hlaw : s.PortsLaw) : t.PortsLaw := by
  cases h with
  | runs hruns => exact reflTransGen_keeps (r := RunChange) (fun _ _ => runChange_portsLaw) hruns hlaw
  | cPort x hx hup => exact ⟨hx hlaw.c, hlaw.m, fun hdown => hlaw.waiting (hup.symm.trans hdown)⟩
  | mPort x hx => exact ⟨hlaw.c, hx hlaw.m, hlaw.waiting⟩
  | lists aborts holds replies hdown => exact ⟨hlaw.c, hlaw.m, fun h => hdown h (hlaw.waiting h)⟩
  | cLost after hafter => exact cLost_portsLaw hafter hlaw
  | cArrives o _ ho => exact ⟨hlaw.c.enterUp ho .c, hlaw.m, fun hdown => by cases hdown⟩
  | free i => exact freeSlot_portsLaw i hlaw
  | _ => exact portsLaw_congr hlaw rfl rfl rfl rfl rfl

/-- Settles O56: a packet joins a send queue where a place is free, and the lists fill while the C-port is UP only. -/
theorem everyStepKeepsThePortsLaw : Obligations.EveryStepKeepsThePortsLaw := by
  intro s t hlaw hstep
  refine step_keeps (fun u v hmove => move_portsLaw hmove) (fun u v hstart h => ?_) hlaw hstep
  cases hstart with
  | quiet hmove => exact move_portsLaw hmove h
  | restart straps => exact portsLaw_congr (powerOn_portsLaw straps) rfl rfl rfl rfl rfl
  | _ => exact portsLaw_congr h rfl rfl rfl rfl rfl

end Sys2Proof.Machine
end


section
/-! What enters the M send queue lies within the windows (R55, R42), and the laws of the slots, the windows and the long
operation (R93, R8, R9, R23, R66) are kept by every step. -/

namespace Sys2Proof.Machine

/-! ## What enters the M send queue (R55, R42) -/

/-- Every packet of the M send queue is one of `old`, or was let in by the OPEN path, or lies within an entry. -/
def State.SentWithin (old : List Packet) (s : State) : Prop :=
  ∀ pkt ∈ s.mPort.tx, pkt ∈ old ∨ s.mode = .openMode ∨ (s.mode = .guardMode ∧ s.Confines pkt)

theorem grant_of_covers {a b : Rights} (h : b.covers a = true) {c : SourceClass} {k : ReqKind} (hgrant : a.Grant c k) :
    b.Grant c k := by
  obtain ⟨hread, hwrite, huser⟩ := (Rights.covers_iff b a).1 h
  obtain ⟨gread, gwrite, guser⟩ := hgrant
  exact ⟨fun hk => hread (gread hk), fun hk => hwrite (gwrite hk), fun hc => huser (guser hc)⟩

/-- What lay within an entry still does. -/
theorem confines_of_settled {s t : State} (h : s.Settled t) {pkt : Packet} (hpkt : s.Confines pkt) : t.Confines pkt := by
  obtain ⟨hknown, i, a, k, ⟨hactive, hserves, hlow, hhigh⟩, hwhole, hgrant, hkind, haddress⟩ := hpkt
  have hmoved := h.windows i
  unfold State.Confines
  rw [h.domains]
  refine ⟨hknown, i, a, k, ⟨hmoved.active.2 hactive, ?_, ?_, ?_⟩, ?_, grant_of_covers hmoved.rights hgrant, hkind, ?_⟩
  · rw [hmoved.domain]; exact hserves
  · rw [hmoved.cardBase]; exact hlow
  · rw [hmoved.cardBase, hmoved.sizeExp]; exact hhigh
  · rw [hmoved.cardBase, hmoved.sizeExp]; exact hwhole
  · rw [hmoved.memBase, hmoved.cardBase]; exact haddress

theorem sentWithin_of_settled {old : List Packet} {s t : State} (h : s.Settled t)
    (htx : ∀ pkt ∈ t.mPort.tx, pkt ∈ s.mPort.tx) (hs : s.SentWithin old) : t.SentWithin old := by
  intro pkt hpkt
  rw [h.mode]
  exact (hs pkt (htx pkt hpkt)).imp_right (Or.imp_right (And.imp_right (confines_of_settled h)))

theorem forwardPacket_kind (w : Option WindowEntry) (r : Request) (tag : Tag) (a : Addr) :
    (forwardPacket (slotKindFor w r.kind) r tag a).kind = .read ↔ r.kind = .read := by
  unfold slotKindFor
  cases hkind : r.kind with
  | read => exact ⟨fun _ => rfl, fun _ => rfl⟩
  | write => exact ⟨fun h => (by cases h), fun h => (by cases h)⟩
  | post =>
    refine ⟨fun h => ?_, fun h => (by cases h)⟩
    cases w with
    | none => cases h
    | some e =>
      dsimp only at h
      split at h <;> cases h

/-- The packet of a request that the GUARD path passed lies within its entry (R47 to R50, R7). -/
theorem confines_of_passes {s : State} {r : Request} {i : Fin 64} (h : s.PassesGuard r i) {pkt : Packet}
    (hsource : pkt.source = r.source) (hlength : pkt.length = r.length) (hkind : pkt.kind = .read ↔ r.kind = .read)
    (haddress : pkt.address = (s.windows[i]).translate r.address) : s.Confines pkt := by
  simp only [State.Confines, hsource, hlength]
  exact ⟨h.known, i, r.address, r.kind, h.found, h.whole, h.granted, hkind, haddress⟩

theorem forward_sentWithin {old : List Packet} {s : State} {r : Request} {w : Option (Fin 64)} (hpass : s.Forwards r w)
    (hs : s.SentWithin old) : (forwardRequest w r s).SentWithin old := by
  have hsettled := runChange_settled (.forward w r s hpass)
  obtain ⟨tag, hport⟩ := (forwardRequest_forwarded hpass).port
  intro pkt hpkt
  rw [hport] at hpkt
  rw [hsettled.mode]
  rcases List.mem_append.1 hpkt with hold | hnew
  · exact (hs pkt hold).imp_right (Or.imp_right (And.imp_right (confines_of_settled hsettled)))
  · rw [List.mem_singleton.1 hnew]
    cases w with
    | none => exact .inr (.inl (hpass.openPath rfl))
    | some i =>
      have hguard := hpass.guardPath i rfl
      exact .inr (.inr ⟨hguard.mode, confines_of_settled hsettled
        (confines_of_passes hguard rfl rfl (forwardPacket_kind ..) rfl)⟩)

theorem runChange_sentWithin {old : List Packet} {s t : State} (h : RunChange s t) (hs : s.SentWithin old) :
    t.SentWithin old := by
  have hsettled := runChange_settled h
  cases h with
  | record f => exact sentWithin_of_settled hsettled (fun pkt hpkt => recordFault_mPort f s ▸ hpkt) hs
  | place p => exact sentWithin_of_settled hsettled (fun pkt hpkt => placeC_mPort p s ▸ hpkt) hs
  | forward w r _ hpass => exact forward_sentWithin hpass hs
  | park => exact sentWithin_of_settled hsettled (fun pkt hpkt => hpkt) hs

theorem freeSlot_mPort (i : Fin 32) (s : State) : (freeSlot i s).mPort = s.mPort := by
  rw [freeSlot_frame]
  rfl

theorem move_sentWithin {old : List Packet} {s t : State} (h : Move s t) (hs : s.SentWithin old) :
    t.SentWithin old := by
  have hsettled := move_settled h
  cases h with
  | runs hruns => exact reflTransGen_keeps (r := RunChange) (fun _ _ => runChange_sentWithin) hruns hs
  | mPort x _ htx => exact sentWithin_of_settled hsettled htx hs
  | free i => exact sentWithin_of_settled hsettled (fun pkt hpkt => freeSlot_mPort i s ▸ hpkt) hs
  | _ => exact sentWithin_of_settled hsettled (fun pkt hpkt => hpkt) hs

/-- A beginning lets nothing into the M send queue. -/
theorem start_tx {s t : State} (h : Start s t) : ∀ pkt ∈ t.mPort.tx, pkt ∈ s.mPort.tx := by
  cases h with
  | quiet _ htx => exact fun pkt hpkt => htx ▸ hpkt
  | restart => exact fun pkt hpkt => absurd hpkt List.not_mem_nil
  | _ => exact fun pkt hpkt => hpkt

/-- Settles O27: nothing enters at the beginning of a step, and what a run then forwards has passed the path of the
mode, which the step does not change any more. -/
theorem nothingEntersTheMSendQueueUnadmitted : Obligations.NothingEntersTheMSendQueueUnadmitted := by
  intro s t hstep
  obtain ⟨u, hstarts, hmoves⟩ := step_steps hstep
  have hu : ∀ pkt ∈ u.mPort.tx, pkt ∈ s.mPort.tx :=
    reflTransGen_keeps (r := Start) (P := fun v => ∀ pkt ∈ v.mPort.tx, pkt ∈ s.mPort.tx)
      (fun v v' hstart hv pkt hpkt => hv pkt (start_tx hstart pkt hpkt)) hstarts fun _ hpkt => hpkt
  exact reflTransGen_keeps (r := Move) (P := State.SentWithin s.mPort.tx) (fun _ _ => move_sentWithin) hmoves
    fun pkt hpkt => .inl (hu pkt hpkt)

/-! ## The tables (R93, R8, R9, R23, R66) -/

theorem anyDraining_congr {s t : State}
    (h : ∀ j : Fin 64, (t.windows[j]).state = .draining ↔ (s.windows[j]).state = .draining) :
    t.anyDraining = s.anyDraining := by
  rw [Bool.eq_iff_iff, anyDraining_iff, anyDraining_iff]
  exact exists_congr h

theorem anyMarked_congr {s t : State} (h : ∀ i : Fin 32, (t.slots[i]).drainMark = (s.slots[i]).drainMark) :
    t.anyMarked = s.anyMarked := by
  rw [Bool.eq_iff_iff, anyMarked_iff, anyMarked_iff]
  exact exists_congr fun i => by rw [h i]

theorem countTable_congr {α : Type} {n : Nat} {p : α → Bool} {v v' : Vector α n} (h : ∀ i : Fin n, p v'[i] = p v[i]) :
    countTable p v' = countTable p v := by
  rw [countTable_eq, countTable_eq]
  exact congrArg (fun q => (List.finRange n).countP q) (funext h)

theorem Slot.Clocked.refl (x : Slot) : x.Clocked x := ⟨rfl, rfl, rfl, .inl⟩

theorem Slot.Clocked.references {x y : Slot} (h : x.Clocked y) (j : Fin 64) : y.references j = x.references j := by
  rw [Slot.references, Slot.references, h.state, h.window]

/-- Clocks of the slots, rights and admissions of the windows, and every other item of state leave the law. -/
theorem tableLaw_of_clocked {s t : State} (h : s.TableLaw) (hslots : ∀ i : Fin 32, (s.slots[i]).Clocked t.slots[i])
    (hfree : t.freeList = s.freeList)
    (hwindows : ∀ j : Fin 64, (t.windows[j]).state = (s.windows[j]).state ∧
      (t.windows[j]).inFlight = (s.windows[j]).inFlight)
    (hlong : t.longOp = s.longOp) : t.TableLaw := by
  obtain ⟨hs, hf, hl⟩ := h
  refine ⟨⟨hfree ▸ hs.nodup, fun i => ?_, fun i hi => ?_, fun i hi => ?_⟩,
    ⟨fun j => ?_, fun j hj => ?_, fun j hj => ?_⟩, ⟨?_, ?_⟩⟩
  · rw [hfree, (hslots i).state]
    exact hs.free_iff i
  · rw [(hslots i).state]
    exact ((hslots i).overdue hi).elim (hs.overdue i) id
  · rw [(hslots i).mark] at hi
    rw [(hslots i).state]
    exact hs.marked i hi
  · rw [(hwindows j).2, hf.count j]
    exact (countTable_congr fun i => (hslots i).references j).symm
  · rw [(hwindows j).1] at hj
    rw [(hwindows j).2]
    exact hf.free j hj
  · rw [(hwindows j).1] at hj
    rw [(hwindows j).2]
    exact hf.draining j hj
  · rw [hlong, hl.retire]
    exact (anyDraining_congr fun j => by rw [(hwindows j).1]).symm
  · rw [hlong, hl.setMode]
    exact (anyMarked_congr fun i => (hslots i).mark).symm

/-! ### A forwarding takes the head of the free list -/

section
variable {s t : State} {r : Request} {w : Option (Fin 64)} (hpass : s.Forwards r w) (hsent : Forwarded s r w t)
include hpass hsent

/-- The window of a forwarding is ACTIVE and stays so. -/
theorem forwarded_window_state (j : Fin 64) : (t.windows[j]).state = (s.windows[j]).state ∧
    (w = some j → (s.windows[j]).state = .active) := by
  refine ⟨?_, fun hj => (hpass.guardPath j hj).found.1⟩
  rw [hsent.window j]
  split <;> rfl

variable (h : s.TableLaw)
include h

/-- A POST that takes no slot leaves the tables but for the window's admissions (R58). -/
theorem forwarded_tableLaw_of_no_slot (hnone : slotKindFor (w.map fun i => s.windows[i]) r.kind = none)
    (hslots : t.slots = s.slots) (hfree : t.freeList = s.freeList) (hlong : t.longOp = s.longOp) : t.TableLaw := by
  refine tableLaw_of_clocked h (fun i => by rw [hslots]; exact .refl _) hfree (fun j => ?_) hlong
  refine ⟨(forwarded_window_state hpass hsent j).1, ?_⟩
  rw [hsent.window j]
  split
  · rw [hnone]; rfl
  · rfl

/-- The slot that is taken becomes WAITING, and the window that it references counts it (R94, R8). -/
theorem forwarded_tableLaw_of_slot {k : SlotKind} {f : Fin 32} {deadline : Tick}
    (hk : slotKindFor (w.map fun i => s.windows[i]) r.kind = some k) (hfree : s.freeList = f :: t.freeList)
    (hslots : t.slots = setAt s.slots f (allocatedSlot s.slots[f] k w r deadline)) (hlong : t.longOp = s.longOp) :
    t.TableLaw := by
  obtain ⟨hs, hf, hl⟩ := h
  have hslot (i : Fin 32) :
      t.slots[i] = if i = f then allocatedSlot s.slots[f] k w r deadline else s.slots[i] := by
    rw [hslots, setAt_get]
  have hnodup := hs.nodup
  rw [hfree, List.nodup_cons] at hnodup
  have hwasFree : (s.slots[f]).state = .free := (hs.free_iff f).1 (hfree ▸ List.mem_cons_self)
  have hunmarked : (s.slots[f]).drainMark = false := by
    by_contra hmark
    have := hs.marked f (Bool.eq_true_of_not_eq_false hmark)
    rw [hwasFree] at this
    cases this
  have hstate (j : Fin 64) := forwarded_window_state hpass hsent j
  refine ⟨⟨hnodup.2, fun i => ?_, fun i => ?_, fun i => ?_⟩, ⟨fun j => ?_, fun j hj => ?_, fun j hj => ?_⟩, ⟨?_, ?_⟩⟩
  · rw [hslot]
    split
    next hi =>
      rw [hi]
      exact ⟨fun hmem => absurd hmem hnodup.1, fun hwaiting => by cases hwaiting⟩
    next hi =>
      rw [← hs.free_iff i, hfree, List.mem_cons]
      exact ⟨.inr, fun hmem => hmem.resolve_left hi⟩
  · rw [hslot]
    split
    · exact fun _ => rfl
    · exact hs.overdue i
  · rw [hslot]
    split
    · exact fun _ => rfl
    · exact hs.marked i
  · have hcount := countTable_setAt (Slot.references j) s.slots f (allocatedSlot s.slots[f] k w r deadline)
    have hold : Slot.references j s.slots[f] = false := by
      rw [Slot.references, hwasFree]
      rfl
    have hnew : Slot.references j (allocatedSlot s.slots[f] k w r deadline) = decide (w = some j) := by
      rw [Bool.eq_iff_iff, references_iff, decide_eq_true_iff]
      exact ⟨fun href => href.2, fun hw => ⟨rfl, hw⟩⟩
    rw [hold, hnew, ← hslots, ← hf.count j] at hcount
    rw [hsent.window j, hk]
    split
    next hj =>
      rw [decide_eq_true hj] at hcount
      exact hcount.symm
    next hj =>
      rw [decide_eq_false hj] at hcount
      exact hcount.symm
  · have hother : w ≠ some j := fun hw => by
      rw [(hstate j).1, (hstate j).2 hw] at hj
      cases hj
    rw [(hstate j).1] at hj
    rw [hsent.window j, if_neg hother]
    exact hf.free j hj
  · have hother : w ≠ some j := fun hw => by
      rw [(hstate j).1, (hstate j).2 hw] at hj
      cases hj
    rw [(hstate j).1] at hj
    rw [hsent.window j, if_neg hother]
    exact hf.draining j hj
  · rw [hlong, hl.retire]
    exact (anyDraining_congr fun j => by rw [(hstate j).1]).symm
  · rw [hlong, hl.setMode]
    refine (anyMarked_congr fun i => ?_).symm
    rw [hslot]
    split
    next hi => rw [hi, hunmarked]; rfl
    next => rfl

end

theorem forwardRequest_longOp (w : Option (Fin 64)) (r : Request) (s : State) :
    (forwardRequest w r s).longOp = s.longOp := by
  rw [forwardRequest_frame]

theorem forwardRequest_tableLaw {s : State} {r : Request} {w : Option (Fin 64)} (h : s.TableLaw)
    (hpass : s.Forwards r w) : (forwardRequest w r s).TableLaw := by
  have hsent := forwardRequest_forwarded hpass
  have hlong := forwardRequest_longOp w r s
  rcases hsent.slots with ⟨hnone, hslots, hfree⟩ | ⟨k, f, deadline, hk, hfree, hslots⟩
  · exact forwarded_tableLaw_of_no_slot hpass hsent h hnone hslots hfree hlong
  · exact forwarded_tableLaw_of_slot hpass hsent h hk hfree hslots hlong

/-! ### Marks, resets and the end of a long operation -/

theorem runChange_tableLaw {s t : State} (h : RunChange s t) (hlaw : s.TableLaw) : t.TableLaw := by
  cases h with
  | record f =>
    exact tableLaw_congr hlaw (recordFault_slots f s) (recordFault_freeList f s) (recordFault_windows f s)
      (recordFault_longOp f s)
  | place pkt =>
    exact tableLaw_congr hlaw (placeC_slots pkt s) (placeC_freeList pkt s) (placeC_windows pkt s) (placeC_longOp pkt s)
  | forward w r _ hpass => exact forwardRequest_tableLaw hlaw hpass
  | park => exact tableLaw_congr hlaw rfl rfl rfl rfl

theorem longDone_tableLaw {s : State} (h : s.TableLaw) (hretire : s.longOp.isRetire = true → s.anyDraining = false)
    (hmode : s.longOp.isSetMode = true → s.anyMarked = false) : (s.setLongOp .idle).TableLaw := by
  have hdrained : s.anyDraining = false := by
    by_contra hd
    exact hd (hretire (h.long.retire.trans (Bool.eq_true_of_not_eq_false hd)))
  have hunmarked : s.anyMarked = false := by
    by_contra hm
    exact hm (hmode (h.long.setMode.trans (Bool.eq_true_of_not_eq_false hm)))
  have hslots := h.slots
  have hflight := h.flight
  exact ⟨⟨hslots.nodup, hslots.free_iff, hslots.overdue, hslots.marked⟩, ⟨hflight.count, hflight.free, hflight.draining⟩,
    ⟨hdrained.symm, hunmarked.symm⟩⟩

theorem marked_slot (s : State) (op : LongOp) (i : Fin 32) :
    ((s.setSlots (mapTable Slot.marked s.slots)).setLongOp op).slots[i] = (s.slots[i]).marked := mapTable_get ..

theorem marked_same (x : Slot) : x.marked.state = x.state ∧ x.marked.window = x.window ∧
    x.marked.overdue = x.overdue := by
  unfold Slot.marked
  split <;> exact ⟨rfl, rfl, rfl⟩

theorem marked_drainMark (x : Slot) :
    x.marked.drainMark = true ↔ x.state = .waiting ∨ x.drainMark = true := by
  unfold Slot.marked
  split
  next h => exact ⟨fun _ => .inl h, fun _ => rfl⟩
  next h => exact ⟨.inr, fun hor => hor.resolve_left h⟩

theorem waitingCount_ne_zero_iff (s : State) : waitingCount s ≠ 0 ↔ ∃ i : Fin 32, (s.slots[i]).state = .waiting := by
  rw [← waitingSlots_length, Ne, List.length_eq_zero_iff, List.eq_nil_iff_forall_not_mem, not_forall_not]
  exact exists_congr fun i => mem_waitingSlots

/-- A mode change marks the WAITING slots, and is in progress exactly when there are any (R64, R66). -/
theorem mark_tableLaw {s : State} {op : LongOp} (h : s.TableLaw) (hidle : s.longOp = .idle)
    (hretire : op.isRetire = false) (hmode : op.isSetMode = decide (waitingCount s ≠ 0)) :
    ((s.setSlots (mapTable Slot.marked s.slots)).setLongOp op).TableLaw := by
  obtain ⟨hs, hf, hl⟩ := h
  have hdrained : s.anyDraining = false := by rw [← hl.retire, hidle]; rfl
  refine ⟨⟨hs.nodup, fun i => ?_, fun i hi => ?_, fun i hi => ?_⟩, ⟨fun j => ?_, hf.free, hf.draining⟩,
    ⟨hretire.trans hdrained.symm, hmode.trans ?_⟩⟩
  · rw [marked_slot, (marked_same _).1]
    exact hs.free_iff i
  · rw [marked_slot, (marked_same _).2.2] at hi
    rw [marked_slot, (marked_same _).1]
    exact hs.overdue i hi
  · rw [marked_slot, marked_drainMark] at hi
    rw [marked_slot, (marked_same _).1]
    exact hi.elim id (hs.marked i)
  · refine (hf.count j).trans (countTable_congr fun i => ?_).symm
    rw [marked_slot, Slot.references, Slot.references, (marked_same _).1, (marked_same _).2.1]
  · rw [Bool.eq_iff_iff, decide_eq_true_iff, waitingCount_ne_zero_iff, anyMarked_iff]
    refine exists_congr fun i => ?_
    rw [marked_slot, marked_drainMark]
    exact ⟨.inl, fun hor => hor.elim id (hs.marked i)⟩

theorem tablesReset_slot (s : State) (freed : List (Fin 32)) (i : Fin 32) :
    (s.tablesReset freed).slots[i] = (s.slots[i]).ended := mapTable_get ..

theorem tablesReset_window (s : State) (freed : List (Fin 32)) (j : Fin 64) :
    (s.tablesReset freed).windows[j] = (s.windows[j]).warmReset := mapTable_get ..

theorem warmReset_not_draining (e : WindowEntry) : e.warmReset.state ≠ .draining := by
  unfold WindowEntry.warmReset
  dsimp only
  split
  next => decide
  next h => exact h

/-- A slot that is WAITING is freed with its marks cleared, and marks are carried by WAITING slots only. -/
theorem ended_marks {x : Slot} (hoverdue : x.overdue = true → x.state = .waiting)
    (hmark : x.drainMark = true → x.state = .waiting) : x.ended.overdue = false ∧ x.ended.drainMark = false := by
  unfold Slot.ended
  split
  next => exact ⟨rfl, rfl⟩
  next hfree =>
    exact ⟨Bool.eq_false_iff.2 fun h => hfree (hoverdue h), Bool.eq_false_iff.2 fun h => hfree (hmark h)⟩

/-- A warm reset frees every slot and clears the counts and the drains (R26, R110, R148). -/
theorem tablesReset_tableLaw {s : State} (h : s.TableLaw) : (s.tablesReset s.waitingSlots).TableLaw := by
  obtain ⟨hs, -, -⟩ := h
  have hmarks (i : Fin 32) := ended_marks (hs.overdue i) (hs.marked i)
  have hnone (j : Fin 64) (i : Fin 32) : Slot.references j ((s.tablesReset s.waitingSlots).slots[i]) = false := by
    rw [tablesReset_slot, Slot.references, ended_state]
    rfl
  refine ⟨⟨?_, fun i => ?_, fun i hi => ?_, fun i hi => ?_⟩, ⟨fun j => ?_, fun j _ => ?_, fun j hj => ?_⟩, ⟨?_, ?_⟩⟩
  · refine List.nodup_append.2 ⟨hs.nodup, waitingSlots_nodup s, fun i hi j hj hij => ?_⟩
    have hfree := (hs.free_iff i).1 hi
    rw [hij, mem_waitingSlots.1 hj] at hfree
    cases hfree
  · rw [tablesReset_slot, ended_state]
    refine ⟨fun _ => rfl, fun _ => List.mem_append.2 ?_⟩
    cases hstate : (s.slots[i]).state with
    | free => exact .inl ((hs.free_iff i).2 hstate)
    | waiting => exact .inr (mem_waitingSlots.2 hstate)
  · rw [tablesReset_slot, (hmarks i).1] at hi
    cases hi
  · rw [tablesReset_slot, (hmarks i).2] at hi
    cases hi
  · rw [tablesReset_window, countTable_eq]
    exact (List.countP_eq_zero.2 fun i _ => by rw [hnone j i]; decide).symm
  · rw [tablesReset_window]
    rfl
  · rw [tablesReset_window] at hj
    exact absurd hj (warmReset_not_draining _)
  · refine ((anyDraining_eq_false_iff _).2 fun j => ?_).symm
    rw [tablesReset_window]
    exact warmReset_not_draining _
  · refine ((anyMarked_eq_false_iff _).2 fun i => ?_).symm
    rw [tablesReset_slot]
    exact (hmarks i).2

theorem widen_tableLaw {s : State} (h : s.TableLaw) (i : Fin 64) (r : Rights) :
    (s.setWindow i { s.windows[i] with rights := r }).TableLaw := by
  refine tableLaw_of_clocked h (fun _ => .refl _) rfl (fun j => ?_) rfl
  rw [load_window]
  split
  next hj => rw [hj]; exact ⟨rfl, rfl⟩
  next => exact ⟨rfl, rfl⟩

theorem move_tableLaw {s t : State} (h : Move s t) (hlaw : s.TableLaw) : t.TableLaw := by
  cases h with
  | runs hruns => exact reflTransGen_keeps (r := RunChange) (fun _ _ => runChange_tableLaw) hruns hlaw
  | slots v hclocked => exact tableLaw_of_clocked hlaw hclocked rfl (fun _ => ⟨rfl, rfl⟩) rfl
  | free i hwaiting => exact freeSlot_tableLaw hlaw hwaiting
  | longDone hretire hmode => exact longDone_tableLaw hlaw hretire hmode
  | mark op hidle hretire hmode => exact mark_tableLaw hlaw hidle hretire hmode
  | tablesReset freed hfreed => exact hfreed ▸ tablesReset_tableLaw hlaw
  | widen i r => exact widen_tableLaw hlaw i r
  | cLost after => rw [cLost_eq]; exact tableLaw_congr hlaw rfl rfl rfl rfl
  | _ => exact tableLaw_congr hlaw rfl rfl rfl rfl

/-! ### The beginnings of a step -/

/-- A FREE entry has nothing in flight, and neither has the entry loaded in its place (R14, R8). -/
theorem load_tableLaw {s : State} {i : Fin 64} {e : WindowEntry} (h : s.TableLaw) (hfree : (s.windows[i]).state = .free)
    (hactive : e.state = .active) (hcount : e.inFlight = 0) : (s.setWindow i e).TableLaw := by
  obtain ⟨hs, hf, hl⟩ := h
  refine ⟨⟨hs.nodup, hs.free_iff, hs.overdue, hs.marked⟩, ⟨fun j => ?_, fun j => ?_, fun j => ?_⟩, ⟨?_, hl.setMode⟩⟩
  · rw [load_window]
    refine Eq.trans ?_ (hf.count j)
    split
    next hj => rw [hj, hcount, hf.free i hfree]
    next => rfl
  · rw [load_window]
    split
    · exact fun _ => hcount
    · exact hf.free j
  · rw [load_window]
    split
    next =>
      rw [hactive]
      exact fun hdraining => by cases hdraining
    next => exact hf.draining j
  · refine hl.retire.trans (anyDraining_congr fun j => ?_).symm
    rw [load_window]
    split
    next hj =>
      rw [hj, hactive, hfree]
      exact ⟨fun hd => (by cases hd), fun hd => (by cases hd)⟩
    next => rfl

theorem retired_state (e : WindowEntry) :
    (e.retired.state = .free → e.inFlight = 0) ∧ (e.retired.state = .draining ↔ e.inFlight ≠ 0) := by
  unfold WindowEntry.retired
  dsimp only
  split
  next h => exact ⟨fun _ => h, ⟨fun hd => (by cases hd), fun hn => absurd h hn⟩⟩
  next h => exact ⟨fun hfree => (by cases hfree), ⟨fun _ => h, fun _ => rfl⟩⟩

/-- A RETIRE is in progress exactly when a selected entry had something in flight (R21, R23). -/
theorem retire_tableLaw {s : State} {l : List (Fin 64)} {op : LongOp} (h : s.TableLaw) (hidle : s.longOp = .idle)
    (hnodup : l.Nodup) (hretire : op.isRetire = l.any fun i => (s.windows[i]).inFlight != 0)
    (hmode : op.isSetMode = false) : ((s.setWindows (l.foldl retireEntryAt s).windows).setLongOp op).TableLaw := by
  obtain ⟨hs, hf, hl⟩ := h
  have hdrained : s.anyDraining = false := by rw [← hl.retire, hidle]; rfl
  have hunmarked : s.anyMarked = false := by rw [← hl.setMode, hidle]; rfl
  refine ⟨⟨hs.nodup, hs.free_iff, hs.overdue, hs.marked⟩, ⟨fun j => ?_, fun j => ?_, fun j => ?_⟩,
    ⟨hretire.trans ?_, hmode.trans hunmarked.symm⟩⟩
  · rw [retire_window hnodup]
    refine Eq.trans ?_ (hf.count j)
    split <;> rfl
  · rw [retire_window hnodup]
    split
    · exact (retired_state _).1
    · exact hf.free j
  · rw [retire_window hnodup]
    split
    · exact (retired_state _).2.1
    · exact hf.draining j
  · rw [Bool.eq_iff_iff, List.any_eq_true, anyDraining_iff]
    refine exists_congr fun j => ?_
    rw [retire_window hnodup, bne_iff_ne]
    have hnot := (anyDraining_eq_false_iff s).1 hdrained j
    split
    next hj => exact ⟨fun hand => (retired_state _).2.2 hand.2, fun hd => ⟨hj, (retired_state _).2.1 hd⟩⟩
    next hj => exact ⟨fun hand => absurd hand.1 hj, fun hd => absurd hd hnot⟩

/-- Settles O54: a forwarding takes the head of the free list, a freeing returns it, and a long operation ends with what
it waits for. -/
theorem everyStepKeepsTheTableLaw : Obligations.EveryStepKeepsTheTableLaw := by
  intro s t hlaw hstep
  refine step_keeps (fun u v hmove => move_tableLaw hmove) (fun u v hstart h => ?_) hlaw hstep
  cases hstart with
  | quiet hmove => exact move_tableLaw hmove h
  | restart straps => exact tableLaw_congr (powerOn_tableLaw straps) rfl rfl rfl rfl
  | domains => exact tableLaw_congr h rfl rfl rfl rfl
  | mode => exact tableLaw_congr h rfl rfl rfl rfl
  | load i e hfree hactive hcount => exact load_tableLaw h hfree hactive hcount
  | retire l op hidle hnodup _ hretire hmode => exact retire_tableLaw h hidle hnodup hretire hmode

end Sys2Proof.Machine
end
